-- ==== Sys2Proof/Word.lean ====
section
/-! DEFINITION. The word types of the block: a byte, and the 16-bit word that a command and the CRC are (R71, R120, R26). -/

namespace Sys2Proof

/-- The addressable unit is the byte (R71). -/
abbrev Byte := BitVec 8

/-- A 16-bit word: a command word (R120), the CRC accumulator (R26). -/
abbrev Word := BitVec 16

end Sys2Proof
end

