-- ==== Sys2Proof/Config.lean ====
section
/-! DEFINITION. The configuration record of R6 and R250, its reference values REFCFG, the types of the parameters that are
functions in the spec (R361), and the free values. -/

namespace Sys2Proof

/-- `RETX_SOURCE` (R6, D15): where the retransmit pass takes its frame. -/
inductive RetxSource
  | newExchange
  | sideBuffer
  deriving DecidableEq, Repr

/-- `MBX_CONTENTION` (R6, D26): what a second concurrent consumer meets. -/
inductive MbxContention
  | hold
  | busy
  deriving DecidableEq, Repr

/-- `STAT_RESET_POLICY` (R6, D39): which transitions clear the statistics. -/
inductive StatResetPolicy
  | everyTransition
  | leaveDisconnected
  deriving DecidableEq, Repr

/-- A class/command/sub-command triplet (R250). -/
structure Triplet where
  cls : Byte
  cmd : Byte
  sub : Byte
  deriving DecidableEq, Repr

/-- The thirteen descriptor fields, in the order of R361. -/
inductive DescField
  | protoVersion
  | vpId
  | vendorName
  | productName
  | hwVersion
  | fwVersion
  | maxClock
  | maxFrame
  | power0
  | power1
  | power2
  | serial
  | bootloader
  deriving DecidableEq, Repr

/-- What `desc_parse` answers (R361). The length `n` of a chunk is the number of its bytes (log 18). -/
inductive DescAnswer
  | sentinel
  | fixed (bytes : List Byte)
  | chunk (chain : Bool) (bytes : List Byte)
  | malformed
  deriving DecidableEq, Repr, Inhabited

/-- A version number (R44); the widths are in no source, so naturals. -/
structure Version where
  major : Nat := 0
  minor : Nat := 0
  patch : Nat := 0
  deriving DecidableEq, Repr, Inhabited

/-- `fw_version.stability` (R45): `'A'`, `'B'`, `'S'`, or `Unset`. -/
inductive Stability
  | unset
  | alpha
  | beta
  | stable
  deriving DecidableEq, Repr, Inhabited

/-- A descriptor record (R44). Numbers whose width is in no source are naturals; the bootloader state, an opaque
enumeration, is kept as the bytes that name it. -/
structure Descriptor where
  vpId : List Byte := []
  vendorName : List Byte := []
  productName : List Byte := []
  fwStability : Stability := .unset
  fwVersion : Version := {}
  hwVersion : Version := {}
  protoVersion : Version := {}
  maxSclkSpeed : Nat := 0
  maxFrameSize : Nat := 0
  maxPower0 : Nat := 0
  maxPower1 : Nat := 0
  maxPower2 : Nat := 0
  serial : List Byte := []
  bootloaderState : List Byte := []
  rid : BitVec 32 := 0
  valid : Bool := false
  deriving DecidableEq, Repr, Inhabited

/-- The configuration record of R6 and R250: every number the block depends on. R6 fixes `crcWidth`, `crcSizeDefault`,
`crcSizeReserved` and `headerSize`, and a well-formed `Config` has those values; the operations write them as the
pseudocode of the spec does, as a 16-bit word and as the constants below. The last three fields are the known part of the
functions `desc_req` and `desc_parse` of R361 and of the layout of descriptor fields (log 17). -/
structure Config where
  crcWidth : Nat
  crcPoly : Word
  crcInit : Word
  crcRefin : Bool
  crcRefout : Bool
  crcXorout : Word
  crcTrailerBe : Bool
  crcSizeDefault : Nat
  crcSizeReserved : Nat
  headerSize : Nat
  maximumFrameSize : Nat
  frameSizeMin : Nat
  frameSizeDefault : Nat
  speedMinKhz : Nat
  speedDefaultHz : Nat
  crc16MaxLength : Nat
  padByte : Byte
  mtOperation : Byte
  mtResponse : Byte
  mtNotification : Byte
  mtAck : Byte
  optNotifPending : Byte
  pollMsg : List Byte
  notifReqMsg : List Byte
  tReadyDefaultMs : Nat
  tSideMs : Nat
  tArbMs : Nat
  debounceSamples : Nat
  debounceIntervalMs : Nat
  backoffCapS : Nat
  fieldCapacity : Nat
  serialSize : Nat
  ctrWidth : Nat
  tPoll : Option Nat
  resyncRetries : Nat
  statResetPolicy : StatResetPolicy
  mbxContention : MbxContention
  retxSource : RetxSource
  retxRewait : Bool
  classCore : Byte
  tWait : Triplet
  lWait : Nat
  cmdError : Byte
  lError : Nat
  subMsgtype : Byte
  subClassid : Byte
  subFramecrc : Byte
  subClass : Byte
  subDatalen : Byte
  subMode : Byte
  tSpeed : Triplet
  lSpeedReq : Nat
  lSpeedCfm : Nat
  tFsize : Triplet
  lFsizeReq : Nat
  lFsizeCfm : Nat
  tDesc : Triplet
  lDescReq : Nat
  lDescCfm : Nat
  valueOffset : Nat
  descReqKnown : List (DescField × Nat × List Byte)
  descParseKnown : List (DescField × List Byte × DescAnswer)
  fieldValueKnown : List (DescField × Nat × List Byte × Nat)
  deriving DecidableEq, Repr

/-- `CRC_SIZE_DEFAULT` (R6, fixed). -/
def crcSizeDefault : Nat := 2

/-- `CRC_SIZE_RESERVED` (R6, fixed): the reserved, unimplemented trailer length. -/
def crcSizeReserved : Nat := 4

/-- `HEADER_SIZE` (R6): type, two length bytes, options (R100). -/
def headerSize : Nat := 4

/-- `MBX_CAPACITY = MAXIMUM_FRAME_SIZE - 2` (R6, R311). -/
def Config.mbxCapacity (c : Config) : Nat := c.maximumFrameSize - 2

/-- The reference configuration REFCFG: the values of the tables of R6 and R250. -/
def refcfg : Config where
  crcWidth := 16
  crcPoly := 0x1021
  crcInit := 0xFFFF
  crcRefin := false
  crcRefout := false
  crcXorout := 0x0000
  crcTrailerBe := true
  crcSizeDefault := 2
  crcSizeReserved := 4
  headerSize := 4
  maximumFrameSize := 1024
  frameSizeMin := 64
  frameSizeDefault := 64
  speedMinKhz := 100
  speedDefaultHz := 100000
  crc16MaxLength := 1022
  padByte := 0x00
  mtOperation := 0x01
  mtResponse := 0x02
  mtNotification := 0x03
  mtAck := 0x04
  optNotifPending := 0x01
  pollMsg := [0x04, 0x00, 0x04, 0x00]
  notifReqMsg := [0x03, 0x00, 0x04, 0x00]
  tReadyDefaultMs := 250
  tSideMs := 3
  tArbMs := 200
  debounceSamples := 5
  debounceIntervalMs := 100
  backoffCapS := 60
  fieldCapacity := 256
  serialSize := 16
  ctrWidth := 32
  tPoll := none
  resyncRetries := 3
  statResetPolicy := .everyTransition
  mbxContention := .hold
  retxSource := .newExchange
  retxRewait := true
  classCore := 0x01
  tWait := ⟨0x01, 0x01, 0x00⟩
  lWait := 11
  cmdError := 0x02
  lError := 7
  subMsgtype := 0x01
  subClassid := 0x02
  subFramecrc := 0x03
  subClass := 0x04
  subDatalen := 0x05
  subMode := 0x06
  tSpeed := ⟨0x01, 0x03, 0x00⟩
  lSpeedReq := 11
  lSpeedCfm := 11
  tFsize := ⟨0x01, 0x04, 0x00⟩
  lFsizeReq := 11
  lFsizeCfm := 11
  tDesc := ⟨0x01, 0x05, 0x00⟩
  lDescReq := 7
  lDescCfm := 7
  valueOffset := 7
  descReqKnown := []
  descParseKnown := []
  fieldValueKnown := []

/-- Free function: the request message `desc_req(field, chunk_no)` of R361, in no source; `Machine.descReq` keeps it within
what R361 lets a model assume (log 17). -/
opaque Config.freeDescReq : DescField → Nat → List Byte

/-- Free function: `desc_parse(field, response message)` of R361, in no source (log 17). -/
opaque Config.freeDescParse : DescField → List Byte → DescAnswer

/-- Free function: the number that component `k` of a fixed field's bytes stands for; the layout is in no source
(R44, N14, log 17). -/
opaque Config.freeFieldValue : DescField → Nat → List Byte → Nat

/-- Free value: the descriptor fields that R340 leaves unspecified (log 10). -/
opaque Config.freeDescriptor : Nat → Descriptor

/-- Free value: the `rid` a refresh preserves when no descriptor is visible (R262, log 11). -/
opaque Config.freeRid : Nat → BitVec 32

end Sys2Proof
end

