-- ==== Sys2Proof/Machine/Operands.lean ====
section
/-! DEFINITION. Operand forms: byte strings, their big-endian fields, messages, directive shapes (R8, R110, R250, R251). -/

namespace Sys2Proof.Machine

/-- Byte `i` of `s` (R8); a position past the end reads 0, which no rule does. -/
def byteAt (s : List Byte) (i : Nat) : Byte := s.getD i 0

/-- `be16(s, i)` (R8). -/
def be16 (s : List Byte) (i : Nat) : Nat := (byteAt s i).toNat * 256 + (byteAt s (i + 1)).toNat

/-- `be32(s, i)` (R8). -/
def be32 (s : List Byte) (i : Nat) : Nat :=
  (byteAt s i).toNat * 2 ^ 24 + (byteAt s (i + 1)).toNat * 2 ^ 16 + (byteAt s (i + 2)).toNat * 2 ^ 8
    + (byteAt s (i + 3)).toNat

/-- `v` as `n` bytes, the most significant first (R342). -/
def beBytes : Nat → Nat → List Byte
  | 0, _ => []
  | n + 1, v => BitVec.ofNat 8 (v / 2 ^ (8 * n)) :: beBytes n v

/-- The two bytes of a 16-bit word, the high byte first (R148). -/
def wordBytes (v : Word) : List Byte := [v.extractLsb' 8 8, v.extractLsb' 0 8]

/-- The length field of a message or frame (R110 (a)). -/
def lengthField (m : List Byte) : Nat := be16 m 1

/-- The domain of `FRM.ENC` and `XCV.XCHG` (R165, R191 (c)): at least the header, and the length field is the byte count. -/
def isMessage (m : List Byte) : Bool := decide (headerSize ≤ m.length) && decide (lengthField m = m.length)

/-- `triplet(m)` (R250): the bytes at offsets 4 to 6. -/
def triplet (m : List Byte) : Triplet := ⟨byteAt m 4, byteAt m 5, byteAt m 6⟩

/-- `value(m)` (R250): the 4-byte value field. -/
def value (c : Config) (m : List Byte) : Nat := be32 m c.valueOffset

/-- A message matches a directive shape `(T, Len)` (R251). The triplet is defined for messages of at least 7 bytes only
(R110, R250): a shorter message matches no shape, even one whose exact length is below 7 (DESIGN CHOICE, log 40). -/
def matchesShape (t : Triplet) (len : Nat) (m : List Byte) : Bool :=
  decide (7 ≤ m.length) && decide (m.length = len) && decide (triplet m = t)

/-- A message matches some directive shape of R250, on the request or the response side. -/
def matchesSomeShape (c : Config) (m : List Byte) : Bool :=
  matchesShape c.tWait c.lWait m
    || matchesShape c.tSpeed c.lSpeedReq m || matchesShape c.tSpeed c.lSpeedCfm m
    || matchesShape c.tFsize c.lFsizeReq m || matchesShape c.tFsize c.lFsizeCfm m
    || matchesShape c.tDesc c.lDescReq m || matchesShape c.tDesc c.lDescCfm m
    || (decide (m.length = c.lError) && decide (byteAt m 4 = c.classCore) && decide (byteAt m 5 = c.cmdError))

/-- What R361 lets a model assume of `desc_req`: a message of at most `FRAME_SIZE_MIN - 2` bytes that matches no directive. -/
def descReqOk (c : Config) (m : List Byte) : Bool :=
  isMessage m && decide (m.length ≤ c.frameSizeMin - 2) && !matchesSomeShape c m

/-- The first `n` bytes of `s`, completed to `n` bytes: the received bytes of one exchange, of which only the number is
constrained (R74, R75, log 22). -/
def fit (n : Nat) (s : List Byte) : List Byte := (s ++ List.replicate n 0).take n

end Sys2Proof.Machine
end

