-- ==== Sys2Proof/Syntax.lean ====
section
/-! DEFINITION. The 18 operations of the command port, one constructor per row of spec/opcode_table.json (R121), and what
an agent presents beside the word (R120). -/

namespace Sys2Proof

/-- The counter index `k` of `STAT.RD`, `imm[1:0]` (R342). -/
inductive Counter
  | transmissionErrors
  | notificationsReceived
  | notificationsFailed
  | descriptorFailed
  deriving DecidableEq, Repr

/-- The operations of R121. `nb` is the flag `n` of `imm[0]`: true is non-blocking. -/
inductive Instr
  | crcClr
  | crcByte (bb : Byte)
  | crcRd
  | frmEnc
  | frmVal
  | frmDec
  | xcvXchg
  | arbAcqFg (nb : Bool)
  | arbRelFg
  | arbAcqBg
  | arbRelBg
  | mbxClr
  | mbxPost
  | mbxTake (nb : Bool)
  | mbxGone
  | lnkRst
  | statClr
  | statRd (k : Counter)
  deriving DecidableEq, Repr

/-- The requester classes of R436. -/
inductive Cls
  | fg
  | bg
  | worker
  | consumer
  deriving DecidableEq, Repr

/-- What an agent presents on the command port (R120): its class and number, the command word, the operand bytes. -/
structure Command where
  cls : Cls
  agent : Nat
  word : Word
  data : List Byte
  deriving DecidableEq, Repr

end Sys2Proof
end

