-- ==== Sys2Proof/WellFormed.lean ====
section
/-! DEFINITION. Well-formedness: the constraints on `Config` (R6, R250) and the operand of each operation (R165, R166, R313). -/

namespace Sys2Proof

open Machine (byteAt be16 lengthField isMessage descReqOk)

/-- No two entries are equal. -/
def pairwiseDistinct (l : List Byte) : Bool := decide l.Nodup

/-- A mask with exactly one bit set (R6, `OPT_NOTIF_PENDING`). -/
def oneBitSet (m : Byte) : Bool := (List.range 8).any fun i => decide (m = BitVec.ofNat 8 (2 ^ i))

/-- A fixed message of R6: well formed, length field from 4 to 62. R6 asks no more of `POLL_MSG` and `NOTIF_REQ_MSG`: that
a longer pull request may carry a directive (R345), and that the poll message may exceed `CRC16_MAX_LENGTH` (R207), are
points the spec leaves open (DESIGN CHOICE, logs 41 and 42). -/
def fixedMessageOk (m : List Byte) : Bool := isMessage m && decide (lengthField m ≤ 62)

/-- The constants that R6 fixes. -/
def Config.fixedOk (c : Config) : Bool :=
  decide (c.crcWidth = 16) && decide (c.crcSizeDefault = 2)
    && decide (c.crcSizeReserved = 4) && decide (c.headerSize = 4)

/-- The constraints of R6 on sizes, speeds and counts. `64 ≤ FRAME_SIZE_MIN` is R88 (b) (log 16). -/
def Config.sizesOk (c : Config) : Bool :=
  decide (c.crcRefin = c.crcRefout)
    && decide (64 ≤ c.maximumFrameSize) && decide (c.maximumFrameSize ≤ 65535)
    && decide (64 ≤ c.frameSizeMin)
    && decide (c.frameSizeMin ≤ c.frameSizeDefault) && decide (c.frameSizeDefault ≤ c.maximumFrameSize)
    && decide (c.speedMinKhz * 1000 ≤ c.speedDefaultHz)
    && decide (4 ≤ c.crc16MaxLength)
    && decide (1 ≤ c.debounceSamples) && decide (1 ≤ c.ctrWidth) && decide (1 ≤ c.resyncRetries)

/-- The constraints of R6 on codes and fixed messages. -/
def Config.codesOk (c : Config) : Bool :=
  pairwiseDistinct [c.mtOperation, c.mtResponse, c.mtNotification, c.mtAck]
    && oneBitSet c.optNotifPending
    && fixedMessageOk c.pollMsg && fixedMessageOk c.notifReqMsg

/-- The constraints of R250: the five triplets differ in their first two bytes, the six sub-codes are distinct, and every
exact length fits: at least 7 bytes, or the value field and the four bytes of a value for a length that has one. A length
with a value field may be below 7, where the triplet is undefined: no message matches it (log 40). -/
def Config.directivesOk (c : Config) : Bool :=
  decide ([(c.tWait.cls, c.tWait.cmd), (c.classCore, c.cmdError), (c.tSpeed.cls, c.tSpeed.cmd),
      (c.tFsize.cls, c.tFsize.cmd), (c.tDesc.cls, c.tDesc.cmd)].Nodup)
    && pairwiseDistinct [c.subMsgtype, c.subClassid, c.subFramecrc, c.subClass, c.subDatalen, c.subMode]
    && [c.lWait, c.lSpeedReq, c.lSpeedCfm, c.lFsizeReq, c.lFsizeCfm].all
        (fun l => decide (c.valueOffset + 4 ≤ l) && decide (l ≤ c.frameSizeMin - 2))
    && [c.lError, c.lDescReq, c.lDescCfm].all (fun l => decide (7 ≤ l) && decide (l ≤ c.frameSizeMin - 2))

/-- The known part of `desc_req` is one that R361 allows. -/
def Config.descReqsOk (c : Config) : Bool := c.descReqKnown.all fun e => descReqOk c e.2.2

/-- A well-formed `Config` (R6, R250, R361); one that is not is refused. -/
def Config.wf (c : Config) : Bool := c.fixedOk && c.sizesOk && c.codesOk && c.directivesOk && c.descReqsOk

/-- The operand of an operation is well formed, at the current `frame_size` (R165, R191 (c), R166, R170, R313). An
operation without an operand does not look at `cmd_data` (log 34). The instructions themselves are well formed by their
types: `imm` bits that R121 does not name have no place in them. -/
def Instr.operandWf (c : Config) (frameSize : Nat) (data : List Byte) : Instr → Bool
  | .frmEnc | .xcvXchg => isMessage data
  | .frmVal | .frmDec => decide (data.length = frameSize)
  | .mbxPost => decide (1 ≤ data.length) && decide (data.length ≤ c.mbxCapacity)
  | .crcClr | .crcByte _ | .crcRd | .arbAcqFg _ | .arbRelFg | .arbAcqBg | .arbRelBg | .mbxClr | .mbxTake _ | .mbxGone
  | .lnkRst | .statClr | .statRd _ => true

/-- A command presented at the port is well formed when its instruction's operand is. -/
def Instr.WellFormed (c : Config) (frameSize : Nat) (data : List Byte) (i : Instr) : Prop :=
  i.operandWf c frameSize data = true

end Sys2Proof
end

