-- ==== Sys2Proof/Decode.lean ====
section
/-! DEFINITION. Decoding and encoding of the command word: `unit` cw[15:12], `fn` cw[11:8], `imm` cw[7:0] (R120 to R122). -/

namespace Sys2Proof

/-- Why a command word is illegal (R122): an undefined unit, an `fn` not listed for its unit, a non-zero `imm` bit where
the mask requires zero. -/
inductive DecodeError
  | undefinedUnit
  | undefinedFn
  | nonzeroImm
  deriving DecidableEq, Repr

/-- `cw[15:12]` (R120). -/
def unitField (w : Word) : BitVec 4 := w.extractLsb' 12 4

/-- `cw[11:8]` (R120). -/
def fnField (w : Word) : BitVec 4 := w.extractLsb' 8 4

/-- `cw[7:0]` (R120). -/
def immField (w : Word) : Byte := w.extractLsb' 0 8

/-- An operation whose `imm` is all zero (mask 0xFFFF). -/
def plainOp (imm : Byte) (i : Instr) : Except DecodeError Instr := if imm = 0 then .ok i else .error .nonzeroImm

/-- An operation with the flag `n` in `imm[0]` (mask 0xFFFE). -/
def flagOp (imm : Byte) (i : Bool → Instr) : Except DecodeError Instr :=
  if imm.extractLsb' 1 7 = 0 then .ok (i (imm.getLsbD 0)) else .error .nonzeroImm

/-- The counter an index names (R342). -/
def counterOf (k : BitVec 2) : Counter :=
  match k.toNat with
  | 0 => .transmissionErrors
  | 1 => .notificationsReceived
  | 2 => .notificationsFailed
  | _ => .descriptorFailed

/-- An operation with a counter index in `imm[1:0]` (mask 0xFFFC). -/
def counterOp (imm : Byte) (i : Counter → Instr) : Except DecodeError Instr :=
  if imm.extractLsb' 2 6 = 0 then .ok (i (counterOf (imm.extractLsb' 0 2))) else .error .nonzeroImm

/-- The operation of a unit, function and immediate (the table of R121). -/
def decodeFields (unit fn : Nat) (imm : Byte) : Except DecodeError Instr :=
  match unit, fn with
  | 1, 0 => plainOp imm .crcClr
  | 1, 1 => .ok (.crcByte imm)
  | 1, 2 => plainOp imm .crcRd
  | 1, _ => .error .undefinedFn
  | 2, 0 => plainOp imm .frmEnc
  | 2, 1 => plainOp imm .frmVal
  | 2, 2 => plainOp imm .frmDec
  | 2, _ => .error .undefinedFn
  | 3, 0 => plainOp imm .xcvXchg
  | 3, _ => .error .undefinedFn
  | 4, 0 => flagOp imm .arbAcqFg
  | 4, 1 => plainOp imm .arbRelFg
  | 4, 2 => plainOp imm .arbAcqBg
  | 4, 3 => plainOp imm .arbRelBg
  | 4, _ => .error .undefinedFn
  | 5, 0 => plainOp imm .mbxClr
  | 5, 1 => plainOp imm .mbxPost
  | 5, 2 => flagOp imm .mbxTake
  | 5, 3 => plainOp imm .mbxGone
  | 5, _ => .error .undefinedFn
  | 6, 0 => plainOp imm .lnkRst
  | 6, _ => .error .undefinedFn
  | 7, 0 => plainOp imm .statClr
  | 7, 1 => counterOp imm .statRd
  | 7, _ => .error .undefinedFn
  | _, _ => .error .undefinedUnit

/-- The operation a command word asks for, or why it is illegal (R121, R122). Total on every word. -/
def decode (w : Word) : Except DecodeError Instr := decodeFields (unitField w).toNat (fnField w).toNat (immField w)

/-- The index of a counter (R342). -/
def counterIndex : Counter → BitVec 2
  | .transmissionErrors => 0
  | .notificationsReceived => 1
  | .notificationsFailed => 2
  | .descriptorFailed => 3

/-- A word from its three fields (R120). -/
def wordOf (unit fn : BitVec 4) (imm : Byte) : Word := unit ++ fn ++ imm

/-- `imm` of a flag operation. -/
def flagImm (nb : Bool) : Byte := if nb then 1 else 0

/-- The command word of an operation (the table of R121). -/
def encode : Instr → Word
  | .crcClr => wordOf 1 0 0
  | .crcByte bb => wordOf 1 1 bb
  | .crcRd => wordOf 1 2 0
  | .frmEnc => wordOf 2 0 0
  | .frmVal => wordOf 2 1 0
  | .frmDec => wordOf 2 2 0
  | .xcvXchg => wordOf 3 0 0
  | .arbAcqFg nb => wordOf 4 0 (flagImm nb)
  | .arbRelFg => wordOf 4 1 0
  | .arbAcqBg => wordOf 4 2 0
  | .arbRelBg => wordOf 4 3 0
  | .mbxClr => wordOf 5 0 0
  | .mbxPost => wordOf 5 1 0
  | .mbxTake nb => wordOf 5 2 (flagImm nb)
  | .mbxGone => wordOf 5 3 0
  | .lnkRst => wordOf 6 0 0
  | .statClr => wordOf 7 0 0
  | .statRd k => wordOf 7 1 ((0 : BitVec 6) ++ counterIndex k)

/-- A row of the table of R121 (spec/opcode_table.json): a word belongs to it when `word &&& mask = pattern`. -/
structure OpcodeRow where
  mask : Word
  pattern : Word
  deriving DecidableEq, Repr

/-- The row of an operation (R121). -/
def rowOf : Instr → OpcodeRow
  | .crcClr => ⟨0xFFFF, 0x1000⟩
  | .crcByte _ => ⟨0xFF00, 0x1100⟩
  | .crcRd => ⟨0xFFFF, 0x1200⟩
  | .frmEnc => ⟨0xFFFF, 0x2000⟩
  | .frmVal => ⟨0xFFFF, 0x2100⟩
  | .frmDec => ⟨0xFFFF, 0x2200⟩
  | .xcvXchg => ⟨0xFFFF, 0x3000⟩
  | .arbAcqFg _ => ⟨0xFFFE, 0x4000⟩
  | .arbRelFg => ⟨0xFFFF, 0x4100⟩
  | .arbAcqBg => ⟨0xFFFF, 0x4200⟩
  | .arbRelBg => ⟨0xFFFF, 0x4300⟩
  | .mbxClr => ⟨0xFFFF, 0x5000⟩
  | .mbxPost => ⟨0xFFFF, 0x5100⟩
  | .mbxTake _ => ⟨0xFFFE, 0x5200⟩
  | .mbxGone => ⟨0xFFFF, 0x5300⟩
  | .lnkRst => ⟨0xFFFF, 0x6000⟩
  | .statClr => ⟨0xFFFF, 0x7000⟩
  | .statRd _ => ⟨0xFFFC, 0x7100⟩

/-- The 18 rows of R121, in the order of the table. -/
def opcodeTable : List OpcodeRow :=
  [Instr.crcClr, .crcByte 0, .crcRd, .frmEnc, .frmVal, .frmDec, .xcvXchg, .arbAcqFg false, .arbRelFg, .arbAcqBg,
    .arbRelBg, .mbxClr, .mbxPost, .mbxTake false, .mbxGone, .lnkRst, .statClr, .statRd .transmissionErrors].map rowOf

/-- A word belongs to a row. -/
def OpcodeRow.holds (r : OpcodeRow) (w : Word) : Bool := decide (w &&& r.mask = r.pattern)

/-- The instruction of a table row's bits: the command word is the whole instruction, 16 bits; every bit above `nbits`
is 0. No instruction is wider. -/
def decodeTableWord (nbits w : Nat) : Option Instr :=
  if nbits ≤ 16 then (decode (BitVec.ofNat 16 (w % 2 ^ nbits))).toOption else none

end Sys2Proof
end

