-- ==== Sys2Proof/Machine/State.lean ====
section
/-! DEFINITION. The state of one slot as plain data (10_state.md), the faults and refusals, and allocation reset (R52). -/

namespace Sys2Proof.Machine

/-- The eight byte buffers (R70 (1) and (2)). -/
inductive BufName
  | tx
  | rxScratch
  | rxPrimary
  | rxSide
  | rxRetx
  | req
  | resp
  | mbx
  deriving DecidableEq, Repr

/-- A fault: the machine stops. -/
inductive Fault
  /-- Raised by `memRead` on a buffer byte that nothing has written since allocation reset (R20, R73). Safe: the rules
  never read one. -/
  | unwrittenByte (buf : BufName)
  deriving DecidableEq, Repr

/-- A refusal: an operation outside its stated precondition, to which the spec gives no meaning (R10, log 3). All are safe:
the model stops where the spec says nothing. -/
inductive Refusal
  /-- Raised by an arm of `exec` whose instruction has no meaning yet; none has. Safe. -/
  | notModelled (mnemonic : String)
  /-- Raised by `step` on a `Config` that breaks a constraint: "a `Config` that breaks one is refused" (R6, R361). Safe. -/
  | illFormedConfig
  /-- Raised by `FRM.ENC` and `XCV.XCHG` on a message shorter than 4 bytes or whose length field is not its byte count
  (R165, R191 (c)). Safe. -/
  | malformedMessage
  /-- Raised by `FRM.VAL` and `FRM.DEC` on an operand that has not `frame_size` bytes (R166, R170), and by `MBX.POST` on
  an empty or too long one (R313). Safe. -/
  | operandSize
  /-- Raised by `CRC.BYTE` and `CRC.RD` before the first `CRC.CLR`: "a model refuses it" (R142). Safe. -/
  | crcUnwritten
  /-- Raised by any operation issued by a class that R436 does not admit. Safe. -/
  | wrongClass
  /-- Raised by any operation issued in a connection state that R436 does not admit. Safe. -/
  | wrongConnState
  /-- Raised by `XCV.XCHG` and the releases when the issuer does not hold the link (R191 (b), R295). Safe. -/
  | linkNotHeld
  /-- Raised by `ARB.ACQ.FG` of the current owner (R295). Safe. -/
  | alreadyOwner
  /-- Raised by `XCV.XCHG`, the releases and `LNK.RST` while `xcv_state` is not `IDLE` (R191 (a), R295, R52). Safe. -/
  | sequencerBusy
  /-- Raised by `LNK.RST` and by the worker's `XCV.XCHG` while the link has an owner (R340, R84 (a)). Safe. -/
  | linkBusy
  /-- Raised by `ARB.ACQ.FG` and `MBX.TAKE` of an agent that is still waiting in that operation (log 27), and by
  `XCV.XCHG` of the worker at the port while it is inside a transaction of its own sequences (log 13). Safe. -/
  | agentBlocked
  /-- Raised by `MBX.CLR` while a consumer is inside `MBX.TAKE` or held at its lock: R312 has none there. Safe. -/
  | mailboxInUse
  /-- Raised by `ARB.ACQ.FG` and `MBX.TAKE` while `Connected` with the device not registered: no foreground requester and
  no consumer exists then (R433, log 43). Safe. -/
  | notRegistered
  /-- Raised by `memRead` and `memWrite` on an access outside a buffer's capacity (R72). Safe. -/
  | outsideBuffer
  /-- Raised by `step` once the slot's state is discarded (R466). Safe. -/
  | slotDiscarded
  deriving DecidableEq, Repr

/-- A buffer's bytes as (offset, byte) pairs, offsets strictly rising; an offset not listed has not been written and has
no value (R73, log 6). -/
abbrev Memory := List Host.Cell

/-- The canonical form: offsets strictly rising. -/
abbrev Memory.wf (m : Memory) : Prop := m.Pairwise fun a b => a.1 < b.1

/-- The six variants of a transaction error (R266). -/
inductive TxnSub
  | messageTypeInvalid
  | classIdInvalid
  | frameCrc
  | classInvalid
  | dataLengthInvalid
  | wrongMode
  deriving DecidableEq, Repr

/-- The closed list of results (R400). -/
inductive Status
  | ok
  | frameTooLarge
  | oversizedRequest
  | notSupported
  | crcMismatch
  | lengthInvalid
  | timeout
  | interrupted
  | corruptResponse
  | protocolError
  | unexpectedMessageType
  | transactionError (sub : TxnSub)
  | descriptorRefreshFailed
  | descriptorError
  | busy
  | deviceGone
  | wouldBlock
  | transportFault
  | illegalCommand
  | mailboxFull
  deriving DecidableEq, Repr

/-- A result delivered to the agent that issued the operation (R120, R415): `data` is `res_data`. -/
structure Answer where
  cls : Cls
  agent : Nat
  status : Status
  data : List Byte
  deriving DecidableEq, Repr

/-- A transaction's result, handed to a sequencer of the block (R416). -/
structure Reply where
  status : Status
  data : List Byte
  deriving DecidableEq, Repr

/-- The sequencer states (R28). -/
inductive XcvState
  | idle
  | s1Check
  | s2Send
  | s3aWait
  | s3bPoll
  | s3bSidewait
  | s3bSide
  | s3cValidate
  | s3dAck
  | s3eType
  | s3fWaitdir
  | s3gApply
  | s3gRefresh
  | retx
  | done
  | fail
  deriving DecidableEq, Repr

/-- Who issued the transaction in progress: an agent at the command port, or a sequencer of the worker or the fetcher. -/
inductive Caller
  | port (cls : Cls) (agent : Nat)
  | poller
  | probe
  | fetcher
  deriving DecidableEq, Repr

/-- The loop variables and pending registers of one transaction (R29 to R31, R37, R38); a nested transaction has its own
(R262). -/
structure LoopVars where
  wait : Bool
  retxPass : Bool
  retxUsed : Bool
  deferredFail : Bool
  timeoutMs : Nat
  pendingSpeedKhz : Option Nat
  pendingFrameSize : Option Nat
  pendingDescUpdate : Bool
  deriving DecidableEq, Repr

/-- The outer transaction while it stands at `S3G_REFRESH` (R262): its issuer, its own variables, and the primary buffer
with its response, kept aside. -/
structure OuterTxn where
  caller : Caller
  vars : LoopVars
  rxPrimary : Memory
  deriving DecidableEq, Repr

/-- `link_owner` (R40). -/
inductive LinkOwner
  | none
  | fg
  | bg
  deriving DecidableEq, Repr

/-- A foreground requester that waits in the arbiter (R285); `gone` once the slot has left `Connected` (log 15). -/
structure FgWaiter where
  agent : Nat
  gone : Bool
  deriving DecidableEq, Repr

/-- Where a consumer inside `MBX.TAKE` stands (R315). -/
inductive TakeStep
  | look
  | wait
  deriving DecidableEq, Repr

/-- The consumer inside `MBX.TAKE` (R315). -/
structure Consumer where
  agent : Nat
  nb : Bool
  at_ : TakeStep
  deriving DecidableEq, Repr

/-- `conn_state` (R43). -/
inductive ConnState
  | disconnected
  | initiating
  | connected
  | failed
  deriving DecidableEq, Repr

/-- A descriptor fetch in progress (R360): its arguments, `prev_rid`, the scratch record, the fields still to get (the
head is the current one), the chunk number and total of a chained field, and whether its transaction is in flight. -/
structure FetchState where
  force : Bool
  preserveRid : BitVec 32
  prevRid : BitVec 32
  scratch : Descriptor
  todo : List DescField
  chunk : Nat
  total : Nat
  awaiting : Bool
  deriving DecidableEq, Repr

/-- Where the worker stands in its sequences: debounce (R351), `CONNECT` (R352, R353), the poller (R343), leaving
`Connected` (R354), `Failed` (R356), shutdown (R358). -/
inductive WorkerPos
  | debounce (seen : Nat)
  | connStat
  | connReset
  | connMailbox
  | connFetch
  | connFetching
  | connRegister
  | connUpStat
  | connUp
  | probe (tries : Nat)
  | probing (tries : Nat)
  | connBackoff
  | connDownStat
  | connDown
  | pollWait
  | pollTest
  | pollAcquire
  | pollExchange
  | pollAwait
  | pollRelease (r : Reply)
  | pollAct (r : Reply)
  | leaveUnregister
  | leaveGone
  | leaveStat
  | leaveDown
  | failUnregister
  | failGone
  | failDown
  | failed
  | stopUnregister
  | stopGone
  | stopDrain
  | ended
  deriving DecidableEq, Repr

/-- What the environment has in store for one `Ready.wait` (R431); `edgeAfter d` is the timed form of R481. -/
inductive ReadyAnswer
  | ready
  | timeout
  | interrupted
  | edgeAfter (ms : Nat)
  deriving DecidableEq, Repr

/-- The environment's answers to whatever one step of an agent asks (R48, R430 to R433): the Transport's result and
received bytes, the ready wait, the presence level, the registration result, the rid draw. -/
structure Env where
  ready : ReadyAnswer := .timeout
  rx : List Byte := []
  transportFault : Bool := false
  presence : Bool := false
  registerOk : Bool := false
  rid : BitVec 32 := 0
  deriving DecidableEq, Repr

/-- One thing that happens to the slot: an agent's turn, or an input of the environment (log 2). -/
inductive Input
  /-- An agent presents a command on the port (R120). -/
  | command (c : Command)
  /-- The transceiver takes its next step (R221). -/
  | xcv (e : Env)
  /-- The worker takes its next step (R343, R351 to R358). -/
  | worker (e : Env)
  /-- A requester waiting in the arbiter is granted the link or leaves with `DeviceGone` (R285 (a)). -/
  | fgTurn (agent : Nat)
  /-- The bounded wait of a requester ends (R285 (b)). -/
  | fgTimeout (agent : Nat)
  /-- A consumer held at the mailbox lock enters, or the one inside looks (R315). -/
  | consumerTurn (agent : Nat)
  /-- External interruption aimed at one waiting agent (R424). -/
  | interrupt (cls : Cls) (agent : Nat)
  /-- The board raises a ready edge (R421). -/
  | readyEdge
  /-- The environment sets the stop flag (R423). -/
  | stopSet
  /-- The environment raises an allocation failure (R356). -/
  | allocFailure
  deriving DecidableEq, Repr

/-- The state of one slot. Names follow 10_state.md; INVENTORY.md lists each with its rule and reset value. -/
structure State where
  cfg : Config
  txBuf : Memory
  rxScratch : Memory
  rxPrimary : Memory
  rxSide : Memory
  rxRetx : Memory
  crcAcc : Word
  crcWritten : Bool
  reqMsg : Memory
  reqLen : Nat
  respMsg : Memory
  respLen : Nat
  mbxBuf : Memory
  xcvState : XcvState
  xcvErr : Status
  xcvOperand : List Byte
  xcvCaller : Caller
  xcvReturn : Option Reply
  xcvOuter : Option OuterTxn
  vars : LoopVars
  readyLatch : Bool
  frameSize : Nat
  crcSize : Nat
  speedSclk : Nat
  linkOwner : LinkOwner
  fgHolder : Nat
  fgIntent : Nat
  fgWaiters : List FgWaiter
  mbxLen : Int
  mbxLock : Bool
  mbxInside : Option Consumer
  mbxHeld : List Nat
  transmissionErrors : Nat
  notificationsReceived : Nat
  notificationsFailed : Nat
  descriptorFailed : Nat
  connState : ConnState
  failCount : Nat
  stop : Bool
  slotId : Nat
  registered : Bool
  allocFailed : Bool
  discarded : Bool
  worker : WorkerPos
  descCur : Descriptor
  descPrev : Descriptor
  fetch : Option FetchState
  portCls : Cls
  portAgent : Nat
  cmdData : List Byte
  answers : List Answer
  sent : List (List Byte)
  inputs : List Input
  freeCtr : Nat
  deriving DecidableEq, Repr

/-- The loop variables after allocation reset (R52). -/
def LoopVars.resetWith (c : Config) : LoopVars where
  wait := false
  retxPass := false
  retxUsed := false
  deferredFail := false
  timeoutMs := c.tReadyDefaultMs
  pendingSpeedKhz := none
  pendingFrameSize := none
  pendingDescUpdate := false

/-- The slot of a configured logical id right after allocation reset (R52, R451), under a `Config`. Values the spec does not
give are those of logs 5, 7, 8 and 9; the model's own fields `inputs`, `answers`, `sent` are empty. -/
def State.resetWith (c : Config) (id : Nat) : State where
  cfg := c
  txBuf := []
  rxScratch := []
  rxPrimary := []
  rxSide := []
  rxRetx := []
  crcAcc := 0
  crcWritten := false
  reqMsg := []
  reqLen := 0
  respMsg := []
  respLen := 0
  mbxBuf := []
  xcvState := .idle
  xcvErr := .ok
  xcvOperand := []
  xcvCaller := .port .fg 0
  xcvReturn := none
  xcvOuter := none
  vars := LoopVars.resetWith c
  readyLatch := false
  frameSize := c.frameSizeDefault
  crcSize := crcSizeDefault
  speedSclk := c.speedDefaultHz
  linkOwner := .none
  fgHolder := 0
  fgIntent := 0
  fgWaiters := []
  mbxLen := 0
  mbxLock := false
  mbxInside := none
  mbxHeld := []
  transmissionErrors := 0
  notificationsReceived := 0
  notificationsFailed := 0
  descriptorFailed := 0
  connState := .disconnected
  failCount := 0
  stop := false
  slotId := id
  registered := false
  allocFailed := false
  discarded := false
  worker := .debounce 0
  descCur := {}
  descPrev := {}
  fetch := none
  portCls := .fg
  portAgent := 0
  cmdData := []
  answers := []
  sent := []
  inputs := []
  freeCtr := 0

/-- The slot right after allocation reset, under REFCFG (R6), with the logical id 0 (log 39). -/
def State.reset : State := State.resetWith refcfg 0

end Sys2Proof.Machine
end

