-- ==== Sys2Proof/Machine/Ops.lean ====
section
/-! DEFINITION. The named operations every unit shares: reading and writing a buffer (R72, R73), delivering a result (R415),
and the start, failure exit and return of a transaction (R191, R219, R220, R416). -/

namespace Sys2Proof.Machine

/-- Why an operation stops without a next state. -/
inductive Stop
  | fault (f : Fault)
  | refuse (r : Refusal)
  deriving DecidableEq, Repr

/-- What an operation of the machine answers: a value, or a stop. -/
abbrev Res (α : Type) := Except Stop α

/-- An operation's answer as the outcome of a step. -/
def outcome : Res State → Host.Outcome State Fault Refusal
  | .ok s => .next s
  | .error (.fault f) => .fault f
  | .error (.refuse r) => .refused r

/-- Go on only if a precondition holds; a refusal otherwise (R10). -/
def require (p : Prop) [Decidable p] (r : Refusal) : Res Unit := if p then .ok () else .error (.refuse r)

/-! Buffers. -/

/-- The byte at an offset, if one has been written. -/
def Memory.get : Memory → Nat → Option Byte
  | [], _ => none
  | (k, b) :: m, a => if k = a then some b else Memory.get m a

/-- The `n` bytes from an offset, if all have been written. -/
def Memory.read (m : Memory) : Nat → Nat → Option (List Byte)
  | _, 0 => some []
  | off, n + 1 =>
    match m.get off, Memory.read m (off + 1) n with
    | some b, some bs => some (b :: bs)
    | _, _ => none

/-- The cells of a byte string placed at an offset. -/
def cellsFrom : Nat → List Byte → Memory
  | _, [] => []
  | off, b :: bs => (off, b) :: cellsFrom (off + 1) bs

/-- `m` with the bytes `v` written from an offset on. -/
def Memory.write (m : Memory) (off : Nat) (v : List Byte) : Memory :=
  m.filter (fun c => decide (c.1 < off)) ++ cellsFrom off v ++ m.filter (fun c => decide (off + v.length ≤ c.1))

/-- The buffer of a name. -/
def State.buf (s : State) : BufName → Memory
  | .tx => s.txBuf
  | .rxScratch => s.rxScratch
  | .rxPrimary => s.rxPrimary
  | .rxSide => s.rxSide
  | .rxRetx => s.rxRetx
  | .req => s.reqMsg
  | .resp => s.respMsg
  | .mbx => s.mbxBuf

/-- `s` with the buffer of a name replaced. -/
def State.setBuf (s : State) (b : BufName) (m : Memory) : State :=
  match b with
  | .tx => { s with txBuf := m }
  | .rxScratch => { s with rxScratch := m }
  | .rxPrimary => { s with rxPrimary := m }
  | .rxSide => { s with rxSide := m }
  | .rxRetx => { s with rxRetx := m }
  | .req => { s with reqMsg := m }
  | .resp => { s with respMsg := m }
  | .mbx => { s with mbxBuf := m }

/-- The capacity of a buffer (R21 to R25, R27, R311). -/
def capacity (c : Config) : BufName → Nat
  | .tx | .rxScratch | .rxPrimary | .rxSide | .rxRetx => c.maximumFrameSize
  | .req | .resp => c.maximumFrameSize - 2
  | .mbx => c.mbxCapacity

/-- `MemRead(buf, off, n)` (R9): an access outside the capacity is refused (R72), a byte that nothing has written is a
fault (R73). -/
def memRead (s : State) (b : BufName) (off n : Nat) : Res (List Byte) :=
  if off + n ≤ capacity s.cfg b then
    match (s.buf b).read off n with
    | some v => .ok v
    | none => .error (.fault (.unwrittenByte b))
  else .error (.refuse .outsideBuffer)

/-- `MemWrite(buf, off, |v|, v)` (R9): an access outside the capacity is refused (R72). -/
def memWrite (s : State) (b : BufName) (off : Nat) (v : List Byte) : Res State :=
  if off + v.length ≤ capacity s.cfg b then .ok (s.setBuf b ((s.buf b).write off v))
  else .error (.refuse .outsideBuffer)

/-! Delivering a result: the block's counterpart of taking an exception (R415). No state is saved, no mode changes and
control goes nowhere; there is no return operation (R416). -/

/-- A result delivered to an agent, and to nobody else (R415). -/
def State.deliver (s : State) (cls : Cls) (agent : Nat) (st : Status) (data : List Byte) : State :=
  { s with answers := ⟨cls, agent, st, data⟩ :: s.answers }

/-- The numeric code a status carries on the command port (R400). -/
def Status.code : Status → Nat
  | .ok => 0
  | .frameTooLarge => 1
  | .oversizedRequest => 2
  | .notSupported => 3
  | .crcMismatch => 4
  | .lengthInvalid => 5
  | .timeout => 6
  | .interrupted => 7
  | .corruptResponse => 8
  | .protocolError => 9
  | .unexpectedMessageType => 10
  | .transactionError .messageTypeInvalid => 11
  | .transactionError .classIdInvalid => 12
  | .transactionError .frameCrc => 13
  | .transactionError .classInvalid => 14
  | .transactionError .dataLengthInvalid => 15
  | .transactionError .wrongMode => 16
  | .descriptorRefreshFailed => 17
  | .descriptorError => 18
  | .busy => 19
  | .deviceGone => 20
  | .wouldBlock => 21
  | .transportFault => 22
  | .illegalCommand => 23
  | .mailboxFull => 24

/-- The result of the command at the port, delivered to its issuer: a status and `res_data` (R120). -/
def State.answer (s : State) (st : Status) (data : List Byte) : State := s.deliver s.portCls s.portAgent st data

/-- An error result of the command at the port: `raise e` (R9, R415); `res_data` is empty. -/
def State.raise (s : State) (e : Status) : State := s.answer e []

/-! Transactions. -/

/-- The sequencer counts as idle: no transaction is in progress, or the one in progress stands at `S3G_REFRESH` with no
nested one running (R191 (a), R262). -/
def State.sequencerFree (s : State) : Bool :=
  match s.xcvOuter with
  | none => decide (s.xcvState = .idle)
  | some _ => decide (s.xcvState = .s3gRefresh)

/-- `XCV.XCHG` accepted: `IDLE -> S1_CHECK` (R221), with its operand and its issuer. -/
def State.startXchg (s : State) (caller : Caller) (m : List Byte) : State :=
  { s with xcvState := .s1Check, xcvOperand := m, xcvCaller := caller }

/-- The failure exit of a transaction: `FAIL e` (R200); the counter and the result are the step at `FAIL` (R219). -/
def State.toFail (s : State) (e : Status) : State := { s with xcvState := .fail, xcvErr := e }

/-- The end of a transaction: the sequencer returns to `IDLE`, or to `S3G_REFRESH` when the transaction was nested (R262),
and the result goes to the issuer (R415): to an agent at the port, or back to the sequencer that issued it (R416). -/
def State.returnXchg (s : State) (r : Reply) : State :=
  let s := { s with xcvState := if s.xcvOuter.isSome then .s3gRefresh else .idle }
  match s.xcvCaller with
  | .port cls agent => s.deliver cls agent r.status r.data
  | .poller | .probe | .fetcher => { s with xcvReturn := some r }

/-- The issuer of the outermost transaction in progress: the one whose link ownership it runs under (R262, R369). -/
def State.rootCaller (s : State) : Caller :=
  match s.xcvOuter with
  | none => s.xcvCaller
  | some o => o.caller

/-- The worker is inside a transaction of one of its own sequences, or has its result still to read (log 13). -/
def State.workerInSequence (s : State) : Bool :=
  s.fetch.isSome || s.xcvReturn.isSome ||
    match s.worker with
    | .pollAwait | .probing _ => true
    | _ => false

end Sys2Proof.Machine
end

