-- ==== Sys2Proof/Machine/Flags.lean ====
section
/-! DEFINITION. Flags and counters: the ready latch (R32, R431), the wrapping counters (R42, R88 (e)), the frame option bit
(R33), and the views the spec defines on registers (R49, R294). -/

namespace Sys2Proof.Machine

/-- A statistics counter one up, modulo `2^CTR_WIDTH` (R42, R88 (e)). -/
def bump (c : Config) (n : Nat) : Nat := (n + 1) % 2 ^ c.ctrWidth

/-- What a ready wait answers to the block (R431). -/
inductive ReadyResult
  | ready
  | timeout
  | interrupted
  deriving DecidableEq, Repr

/-- The outcome of a wait of `t` ms on a clear latch (R431, R481); `none` is a wait without bound. A wait of 0 ms does not
answer `Ready` on a clear latch; it may answer `Interrupted` there, as R431 has it, although R264, which cites R431, names
`Timeout` alone (DESIGN CHOICE, log 24). -/
def clearLatchAnswer (t : Option Nat) : ReadyAnswer → ReadyResult
  | .ready => if t = some 0 then .timeout else .ready
  | .timeout => .timeout
  | .interrupted => .interrupted
  | .edgeAfter d =>
    match t with
    | none => .ready
    | some t => if t ≠ 0 ∧ d ≤ t then .ready else .timeout

/-- `Ready.wait(t)` (R431): a set latch is cleared and answers `Ready`; otherwise the environment chooses. -/
def readyWait (s : State) (t : Option Nat) (a : ReadyAnswer) : State × ReadyResult :=
  if s.readyLatch then ({ s with readyLatch := false }, .ready) else (s, clearLatchAnswer t a)

/-- `Ready.clear()` (R203, R431). -/
def readyClear (s : State) : State := { s with readyLatch := false }

/-- The notification-pending bit of a message or frame (R33, R103): carried, read by no rule. -/
def notifPending (c : Config) (m : List Byte) : Bool := decide (byteAt m 3 &&& c.optNotifPending ≠ 0)

/-- The visible descriptor (R49). -/
def State.visible (s : State) : Option Descriptor :=
  if s.descCur.valid then some s.descCur else if s.descPrev.valid then some s.descPrev else none

/-- The source's `write_count`, a view (R40, R294): -1 idle, 0 contested, N queued. -/
def State.writeCount (s : State) : Int := (s.fgIntent : Int) - 1

end Sys2Proof.Machine
end

