-- ==== Sys2Proof/Machine/Crc.lean ====
section
/-! DEFINITION. The CRC-16/CCITT unit (40_crc.md): the table-driven function and `CRC.CLR`, `CRC.BYTE`, `CRC.RD`. -/

namespace Sys2Proof.Machine

/-- One shift of the most-significant-first register (R143). -/
def shiftLeftStep (poly c : Word) : Word := if c.msb then (c <<< 1) ^^^ poly else c <<< 1

/-- One shift of the reflected register (R144). -/
def shiftRightStep (rpoly c : Word) : Word := if c.getLsbD 0 then (c >>> 1) ^^^ rpoly else c >>> 1

/-- The table entry `T[i]` (R143). -/
def crcTable (poly : Word) (i : Byte) : Word := (shiftLeftStep poly)^[8] (i.setWidth 16 <<< 8)

/-- The reflected table entry `TR[i]` (R144). -/
def crcTableReflected (poly : Word) (i : Byte) : Word := (shiftRightStep poly.reverse)^[8] (i.setWidth 16)

/-- The byte step (R144): `step` when `CRC_REFIN` is false, `step_r` when it is true. -/
def crcStep (c : Config) (acc : Word) (b : Byte) : Word :=
  if c.crcRefin then (acc >>> 8) ^^^ crcTableReflected c.crcPoly (acc.extractLsb' 0 8 ^^^ b)
  else (acc <<< 8) ^^^ crcTable c.crcPoly (acc.extractLsb' 8 8 ^^^ b)

/-- The bit-serial form of the byte step for `CRC_REFIN = false` (R144). -/
def crcStepSerial (c : Config) (acc : Word) (b : Byte) : Word :=
  (shiftLeftStep c.crcPoly)^[8] (acc ^^^ (b.setWidth 16 <<< 8))

/-- The accumulator after the bytes `s`, from `acc` on. -/
def crcFold (c : Config) (acc : Word) (s : List Byte) : Word := s.foldl (crcStep c) acc

/-- `crc16(s)` (R145). -/
def crc16 (c : Config) (s : List Byte) : Word := crcFold c c.crcInit s ^^^ c.crcXorout

/-- `CRC.CLR` (R146). Any class, any state (R436). -/
def execCrcClr (s : State) : Host.Outcome State Fault Refusal :=
  .next ({ s with crcAcc := s.cfg.crcInit, crcWritten := true }.answer .ok [])

/-- `CRC.BYTE bb` (R147). Before the first `CRC.CLR` it is outside its precondition and the spec refuses it: "a model refuses
it" (R142, R10), "refused if `crc_acc` is unwritten" (R147), "the model gives it no result" (U12). -/
def execCrcByte (bb : Byte) (s : State) : Host.Outcome State Fault Refusal :=
  if s.crcWritten then .next ({ s with crcAcc := crcStep s.cfg s.crcAcc bb }.answer .ok [])
  else .refused .crcUnwritten

/-- `CRC.RD` (R148): the accumulator xor `CRC_XOROUT`, high byte first. Before the first `CRC.CLR` it is
outside its precondition and the spec refuses it: "refused on an unwritten `crc_acc`" (R148, R142, R10, U12). -/
def execCrcRd (s : State) : Host.Outcome State Fault Refusal :=
  if s.crcWritten then .next (s.answer .ok (wordBytes (s.crcAcc ^^^ s.cfg.crcXorout)))
  else .refused .crcUnwritten

end Sys2Proof.Machine
end

