-- ==== Sys2Proof/Machine/Codec.lean ====
section
/-! DEFINITION. The frame codec (41_frame_codec.md): encode, validate, decode, and `FRM.ENC`, `FRM.VAL`, `FRM.DEC`. -/

namespace Sys2Proof.Machine

/-- `crcsel(L)` (R108): the CRC size a length selects. -/
def crcsel (c : Config) (len : Nat) : Nat := if len ≤ c.crc16MaxLength then crcSizeDefault else crcSizeReserved

/-- The CRC trailer of a CRC value (R77, R106). -/
def trailer (c : Config) (v : Word) : List Byte := if c.crcTrailerBe then wordBytes v else (wordBytes v).reverse

/-- The non-CRC bytes of the frame of `m`: the message, then fill up to `N - 2` (R100, R105). -/
def frameBody (c : Config) (n : Nat) (m : List Byte) : List Byte := m ++ List.replicate (n - 2 - m.length) c.padByte

/-- The frame of `m` at frame size `n` (R100, R106). -/
def frameOf (c : Config) (n : Nat) (m : List Byte) : List Byte :=
  frameBody c n m ++ trailer c (crc16 c (frameBody c n m))

/-- `encode` (R162): the CRC size is selected first (R163), then the length is tested (R164). -/
def encodeFrame (c : Config) (n : Nat) (m : List Byte) : Except Status (List Byte) :=
  if crcsel c (lengthField m) = crcSizeReserved then .error .notSupported
  else if n - 2 < lengthField m then .error .frameTooLarge
  else .ok (frameOf c n m)

/-- The received CRC of a frame of `n` bytes (R110 (b)). -/
def receivedCrc (c : Config) (n : Nat) (f : List Byte) : Nat :=
  if c.crcTrailerBe then be16 f (n - 2) else (byteAt f (n - 1)).toNat * 256 + (byteAt f (n - 2)).toNat

/-- The length field of a received frame is in range (R168). -/
def lengthOk (n : Nat) (f : List Byte) : Bool := decide (headerSize ≤ lengthField f) && decide (lengthField f ≤ n - 2)

/-- `validate` (R166): the CRC first (R167), then the length (R168). -/
def validateFrame (c : Config) (n : Nat) (f : List Byte) : Status :=
  if receivedCrc c n f ≠ (crc16 c (f.take (n - 2))).toNat then .crcMismatch
  else if lengthOk n f then .ok else .lengthInvalid

/-- `check(f)` (R169). -/
def check (c : Config) (n : Nat) (f : List Byte) : Bool := decide (validateFrame c n f = .ok)

/-- `decode` (R170): the message of a frame; the CRC is not checked. -/
def decodeFrame (n : Nat) (f : List Byte) : Except Status (List Byte) :=
  if lengthOk n f then .ok (f.take (lengthField f)) else .error .lengthInvalid

/-- The state after a successful encode (R162): the frame in `tx_buf`, `crc_size` 2. -/
def storeFrame (s : State) (f : List Byte) : Res State :=
  (memWrite s .tx 0 f).map fun s => { s with crcSize := crcSizeDefault }

/-- `FRM.ENC` (R162 to R165). Any class, any state (R436), also while a transaction runs: it writes the one `tx_buf`, which a
later exchange of that transaction then sends, though R209 and R213 speak of the poll frame (DESIGN CHOICE, log 45). -/
def execFrmEnc (s : State) : Host.Outcome State Fault Refusal :=
  if isMessage s.cmdData then
    match encodeFrame s.cfg s.frameSize s.cmdData with
    | .error e => .next (s.raise e)
    | .ok f => outcome ((storeFrame s f).map fun s => s.answer .ok f)
  else .refused .malformedMessage

/-- `FRM.VAL` (R166). -/
def execFrmVal (s : State) : Host.Outcome State Fault Refusal :=
  if s.cmdData.length = s.frameSize then .next (s.answer (validateFrame s.cfg s.frameSize s.cmdData) [])
  else .refused .operandSize

/-- `FRM.DEC` (R170). -/
def execFrmDec (s : State) : Host.Outcome State Fault Refusal :=
  if s.cmdData.length = s.frameSize then
    match decodeFrame s.frameSize s.cmdData with
    | .error e => .next (s.raise e)
    | .ok m => .next (s.answer .ok m)
  else .refused .operandSize

end Sys2Proof.Machine
end

