-- ==== Sys2Proof/Machine/Inband.lean ====
section
/-! DEFINITION. In-band directives (43_inband.md): what steps 1, 3e, 3f and 3g of a transaction recognise in messages. -/

namespace Sys2Proof.Machine

/-- `accept_speed(k)` (R253, R254). -/
def acceptSpeed (s : State) (k : Nat) : Bool :=
  match s.visible with
  | none => false
  | some d => decide (s.cfg.speedMinKhz ≤ k) && decide (k ≤ d.maxSclkSpeed)

/-- `accept_fsize(n)` (R258, R254). -/
def acceptFsize (s : State) (n : Nat) : Bool :=
  match s.visible with
  | none => false
  | some d => decide (s.cfg.frameSizeMin ≤ n) && decide (n ≤ d.maxFrameSize) && decide (n ≤ s.cfg.maximumFrameSize)

/-- The request-side match of step 1 (R252, R255, R260): the pending registers a request message sets. With no visible
descriptor R39 and D21 accept no directive request, while R252 and R260 always latch a descriptor update, which has no bound of
a descriptor: it is latched then too (DESIGN CHOICE, log 11). -/
def latchDirective (s : State) (m : List Byte) : LoopVars :=
  { s.vars with
    pendingSpeedKhz :=
      if matchesShape s.cfg.tSpeed s.cfg.lSpeedReq m && acceptSpeed s (value s.cfg m) then some (value s.cfg m) else none
    pendingFrameSize :=
      if matchesShape s.cfg.tFsize s.cfg.lFsizeReq m && acceptFsize s (value s.cfg m) then some (value s.cfg m) else none
    pendingDescUpdate := matchesShape s.cfg.tDesc s.cfg.lDescReq m }

/-- The sub-code's variant (R266); a sub-code outside the six is none (R267). -/
def txnSubOf (c : Config) (b : Byte) : Option TxnSub :=
  if b = c.subMsgtype then some .messageTypeInvalid
  else if b = c.subClassid then some .classIdInvalid
  else if b = c.subFramecrc then some .frameCrc
  else if b = c.subClass then some .classInvalid
  else if b = c.subDatalen then some .dataLengthInvalid
  else if b = c.subMode then some .wrongMode
  else none

/-- `txn_error` of a response message (R265). -/
def txnError (c : Config) (r : List Byte) : Option TxnSub :=
  if r.length = c.lError ∧ byteAt r 4 = c.classCore ∧ byteAt r 5 = c.cmdError then txnSubOf c (byteAt r 6) else none

/-- `wait_directive` of a response message (R264): the microsecond count. -/
def waitDirective (c : Config) (r : List Byte) : Option Nat :=
  if matchesShape c.tWait c.lWait r then some (value c r) else none

/-- The clock a response confirms (R256): the pending kHz value, when the response is the zero-value confirmation. -/
def confirmedSpeed (s : State) (r : List Byte) : Option Nat :=
  if matchesShape s.cfg.tSpeed s.cfg.lSpeedCfm r && decide (value s.cfg r = 0) then s.vars.pendingSpeedKhz else none

/-- The frame size a response confirms (R259). -/
def confirmedFsize (s : State) (r : List Byte) : Option Nat :=
  if matchesShape s.cfg.tFsize s.cfg.lFsizeCfm r && decide (value s.cfg r = 0) then s.vars.pendingFrameSize else none

/-- A response confirms a pending descriptor update (R261). -/
def confirmedDesc (s : State) (r : List Byte) : Bool :=
  matchesShape s.cfg.tDesc s.cfg.lDescCfm r && s.vars.pendingDescUpdate

/-- The link parameters after step 3g's assignments (R256, R259, R263): visible to every later operation (R87). -/
def applyLinkParams (s : State) (r : List Byte) : State :=
  { s with
    speedSclk := match confirmedSpeed s r with
      | some k => k * 1000
      | none => s.speedSclk
    frameSize := match confirmedFsize s r with
      | some n => n
      | none => s.frameSize }

end Sys2Proof.Machine
end

