-- ==== Sys2Proof/Machine/Fetcher.lean ====
section
/-! DEFINITION. The descriptor fetcher (R360 to R369), one step at a time: it issues the field transactions and reads their
results. -/

namespace Sys2Proof.Machine

/-- A message that R361 allows as a request, from any byte string: the string itself when it is allowed, else a message of
its first and fourth bytes with no body, which every well-formed `Config` allows (log 17). -/
def allowedDescReq (c : Config) (m : List Byte) : List Byte :=
  if descReqOk c m then m else [byteAt m 0, 0x00, 0x04, byteAt m 3]

/-- `desc_req(field, chunk_no)` (R361): the known part, elsewhere a free function within what R361 allows (log 17). -/
def descReq (c : Config) (f : DescField) (i : Nat) : List Byte :=
  match c.descReqKnown.find? (fun e => decide (e.1 = f ∧ e.2.1 = i)) with
  | some e => e.2.2
  | none => allowedDescReq c (Config.freeDescReq f i)

/-- `desc_parse(field, response)` (R361): the known part, a free function elsewhere (log 17). -/
def descParse (c : Config) (f : DescField) (r : List Byte) : DescAnswer :=
  match c.descParseKnown.find? (fun e => decide (e.1 = f ∧ e.2.1 = r)) with
  | some e => e.2.2
  | none => Config.freeDescParse f r

/-- The number component `k` of a fixed field's bytes stands for: the known part, a free function elsewhere (log 17). -/
def fieldValue (c : Config) (f : DescField) (k : Nat) (bytes : List Byte) : Nat :=
  match c.fieldValueKnown.find? (fun e => decide (e.1 = f ∧ e.2.1 = k ∧ e.2.2.1 = bytes)) with
  | some e => e.2.2.2
  | none => Config.freeFieldValue f k bytes

/-- The fields in the order of R361. -/
def fieldOrder : List DescField :=
  [.protoVersion, .vpId, .vendorName, .productName, .hwVersion, .fwVersion, .maxClock, .maxFrame, .power0, .power1,
    .power2, .serial, .bootloader]

/-- The string-like fields, which are chained (R362). -/
def isChained : DescField → Bool
  | .vpId | .vendorName | .productName => true
  | .protoVersion | .hwVersion | .fwVersion | .maxClock | .maxFrame | .power0 | .power1 | .power2 | .serial
  | .bootloader => false

/-- Decoding of the stability byte; an unrecognised value keeps the prior value (R366). -/
def stabilityOf (prior : Stability) (b : Nat) : Stability :=
  match b with
  | 1 => .alpha
  | 2 => .beta
  | 3 => .stable
  | _ => prior

/-- A version number from components `k`, `k + 1`, `k + 2` of a field. -/
def versionOf (c : Config) (f : DescField) (k : Nat) (bytes : List Byte) : Version :=
  ⟨fieldValue c f k bytes, fieldValue c f (k + 1) bytes, fieldValue c f (k + 2) bytes⟩

/-- The bytes of a fixed field stored into the scratch record (R364); the serial code has exactly `SERIAL_SIZE` bytes
(R44, log 18). A chained field has no fixed answer (R362). -/
def storeFixed (c : Config) (f : DescField) (bytes : List Byte) (d : Descriptor) : Option Descriptor :=
  match f with
  | .protoVersion => some { d with protoVersion := versionOf c f 0 bytes }
  | .hwVersion => some { d with hwVersion := versionOf c f 0 bytes }
  | .fwVersion =>
    some { d with fwStability := stabilityOf d.fwStability (fieldValue c f 0 bytes), fwVersion := versionOf c f 1 bytes }
  | .maxClock => some { d with maxSclkSpeed := fieldValue c f 0 bytes }
  | .maxFrame => some { d with maxFrameSize := fieldValue c f 0 bytes }
  | .power0 => some { d with maxPower0 := fieldValue c f 0 bytes }
  | .power1 => some { d with maxPower1 := fieldValue c f 0 bytes }
  | .power2 => some { d with maxPower2 := fieldValue c f 0 bytes }
  | .serial => if bytes.length = c.serialSize then some { d with serial := bytes } else none
  | .bootloader => some { d with bootloaderState := bytes }
  | .vpId | .vendorName | .productName => none

/-- A chunk appended to the chained field of the scratch record (R362). -/
def appendChunk (f : DescField) (bytes : List Byte) (d : Descriptor) : Descriptor :=
  match f with
  | .vpId => { d with vpId := d.vpId ++ bytes }
  | .vendorName => { d with vendorName := d.vendorName ++ bytes }
  | .productName => { d with productName := d.productName ++ bytes }
  | .protoVersion | .hwVersion | .fwVersion | .maxClock | .maxFrame | .power0 | .power1 | .power2 | .serial
  | .bootloader => d

/-- The fetch after the response `r` to the current field `f` (R362 to R364), or none when it fails the fetch: sentinel,
malformed, an answer of the wrong form, or a chunk that would overflow the field (R363). -/
def takeField (c : Config) (st : FetchState) (f : DescField) (rest : List DescField) (r : List Byte) : Option FetchState :=
  match descParse c f r with
  | .sentinel => none
  | .malformed => none
  | .fixed bytes =>
    (storeFixed c f bytes st.scratch).map fun d =>
      { st with scratch := d, todo := rest, chunk := 0, total := 0, awaiting := false }
  | .chunk chain bytes =>
    if isChained f then
      if c.fieldCapacity < st.total + bytes.length then none
      else if chain then
        some { st with scratch := appendChunk f bytes st.scratch, chunk := st.chunk + 1, total := st.total + bytes.length
                       awaiting := false }
      else
        some { st with scratch := appendChunk f bytes st.scratch, todo := rest, chunk := 0, total := 0, awaiting := false }
    else none

/-- Step `F1` (R360): the previous descriptor stays readable, the current one is invalid, the scratch record starts with
the current stability. `force` is carried and has no effect. -/
def fetchStart (s : State) (force : Bool) (preserveRid : BitVec 32) : State :=
  { s with
    descPrev := if s.descCur.valid then s.descCur else s.descPrev
    descCur := { s.descCur with valid := false }
    fetch := some
      { force := force, preserveRid := preserveRid, prevRid := s.descCur.rid
        scratch := { fwStability := s.descCur.fwStability }
        todo := fieldOrder, chunk := 0, total := 0, awaiting := false } }

/-- Where a fetch stands after one of its steps. -/
inductive FetchEnd
  | running
  | ok
  | failed
  deriving DecidableEq, Repr

/-- The draw of a new `rid` (R368): nonzero and different from the previous one; the environment's candidate when it is
such a value, else the least that is (log 23). -/
def drawRid (candidate prev : BitVec 32) : BitVec 32 :=
  if candidate ≠ 0 ∧ candidate ≠ prev then candidate else if prev = 1 then 2 else 1

/-- A fetch that ends in `DescriptorError` (R365): the scratch record is dropped, `desc_cur` stays invalid (R367). -/
def fetchFail (s : State) : State × FetchEnd :=
  ({ s with descriptorFailed := bump s.cfg s.descriptorFailed, fetch := none }, .failed)

/-- Steps `F3` and `F4` (R360, R367): the scratch record gets its `rid` and is published in one atomic step. -/
def fetchPublish (s : State) (e : Env) (st : FetchState) : State × FetchEnd :=
  let rid := if st.preserveRid = 0 then drawRid e.rid st.prevRid else st.preserveRid
  ({ s with descCur := { st.scratch with rid := rid, valid := true }, fetch := none }, .ok)

/-- The fetcher may use the link (R191 (b), R369): under the outer transaction's ownership, or in `Initiating` while no
agent holds the link (R84 (a)). -/
def fetcherMayUseLink (s : State) : Bool :=
  s.xcvOuter.isSome || (decide (s.connState = .initiating) && decide (s.linkOwner = .none))

/-- The transaction of the current field or chunk is issued (R361): `XCV.XCHG desc_req(field, i)`. -/
def fetchIssue (s : State) (st : FetchState) (f : DescField) : Res (State × FetchEnd) := do
  require (fetcherMayUseLink s = true) .wrongConnState
  return ({ s.startXchg .fetcher (descReq s.cfg f st.chunk) with fetch := some { st with awaiting := true } }, .running)

/-- The result of a field transaction is read (R362, R364); a failed one fails the fetch. -/
def fetchTake (s : State) (st : FetchState) (f : DescField) (rest : List DescField) (r : Reply) : State × FetchEnd :=
  let s := { s with xcvReturn := none }
  if r.status = .ok then
    match takeField s.cfg st f rest r.data with
    | some st' => ({ s with fetch := some st' }, .running)
    | none => fetchFail s
  else fetchFail s

/-- One step of the fetch in progress (R360). While a transaction of another agent or its own is in flight it waits. -/
def fetchStep (s : State) (e : Env) : Res (State × FetchEnd) :=
  match s.fetch with
  | none => .ok (s, .running)
  | some st =>
    match st.todo with
    | [] => .ok (fetchPublish s e st)
    | f :: rest =>
      if st.awaiting then
        match s.xcvReturn with
        | some r => .ok (fetchTake s st f rest r)
        | none => .ok (s, .running)
      else if s.sequencerFree then fetchIssue s st f
      else .ok (s, .running)

end Sys2Proof.Machine
end

