-- ==== Sys2Proof/Machine/Transceiver.lean ====
section
/-! DEFINITION. The transceiver (42_transceiver.md): `XCV.XCHG` accepted at the port, and one definition per sequencer
state of R221. -/

namespace Sys2Proof.Machine

/-- `Transport.exchange(tx_buf)` into a receive buffer (R74, R430): `frame_size` bytes each way; whether it answered
`Fault`. -/
def exchange (s : State) (e : Env) (dst : BufName) : Res (State × Bool) := do
  let tx ← memRead s .tx 0 s.frameSize
  let s ← memWrite { s with sent := tx :: s.sent } dst 0 (fit s.frameSize e.rx)
  return (s, e.transportFault)

/-- After an exchange: `Fault` fails the transaction (R204), else the transaction goes on. -/
def afterExchange (next : State → State) : State × Bool → State
  | (s, fault) => if fault then s.toFail .transportFault else next s

/-- The sequencer goes to a state. -/
def State.goto (s : State) (x : XcvState) : State := { s with xcvState := x }

/-- The message of the primary frame: its first `L` bytes (R110, R170). -/
def primaryMessage (s : State) : Res (List Byte) := do
  let h ← memRead s .rxPrimary 0 headerSize
  memRead s .rxPrimary 0 (lengthField h)

/-- `S1_CHECK` (R201): the bound of the buffers, then the request is latched and its directive matched (R252). -/
def xcvS1Check (s : State) : Res State :=
  if s.cfg.maximumFrameSize - s.crcSize < lengthField s.xcvOperand then .ok (s.toFail .oversizedRequest)
  else do
    let t ← memWrite s .req 0 s.xcvOperand
    return { t with reqLen := s.xcvOperand.length, vars := latchDirective s s.xcvOperand, xcvState := .s2Send }

/-- The loop variables of step 2 (R205). -/
def freshVars (c : Config) (v : LoopVars) : LoopVars :=
  { v with timeoutMs := c.tReadyDefaultMs, wait := true, retxPass := false, retxUsed := false, deferredFail := false }

/-- `S2_SEND` (R202 to R205): encode, clear the ready latch, exchange, initialise the loop. -/
def xcvS2Send (s : State) (e : Env) : Res State := do
  let m ← memRead s .req 0 s.reqLen
  match encodeFrame s.cfg s.frameSize m with
  | .error st => return s.toFail st
  | .ok f =>
    let s ← storeFrame s f
    let r ← exchange (readyClear s) e .rxScratch
    return afterExchange (fun s => { s with vars := freshVars s.cfg s.vars, xcvState := .s3aWait }) r

/-- `S3A_WAIT` (R206). -/
def xcvS3aWait (s : State) (e : Env) : State :=
  match readyWait s (some s.vars.timeoutMs) e.ready with
  | (s, .ready) => s.goto .s3bPoll
  | (s, .timeout) => s.toFail .timeout
  | (s, .interrupted) => s.toFail .interrupted

/-- Where the retransmit pass takes its frame (R210). -/
def retxBuffer (c : Config) : BufName :=
  match c.retxSource with
  | .newExchange => .rxRetx
  | .sideBuffer => .rxSide

/-- `S3B_POLL` (R207, R210). R207 says that encoding `POLL_MSG` cannot fail, and R221 lists no such transfer, yet R6 lets a
`Config` have `CRC16_MAX_LENGTH` below the length of `POLL_MSG`: the encode then answers `NotSupported`, and the
transaction fails with it as at step 2 (DESIGN CHOICE, log 41). -/
def xcvS3bPoll (s : State) (e : Env) : Res State :=
  if s.vars.retxPass then do
    let f ← memRead s (retxBuffer s.cfg) 0 s.frameSize
    let s ← memWrite s .rxPrimary 0 f
    return { s with vars := { s.vars with retxPass := false }, xcvState := .s3cValidate }
  else
    match encodeFrame s.cfg s.frameSize s.cfg.pollMsg with
    | .error st => .ok (s.toFail st)
    | .ok f => do
      let s ← storeFrame s f
      let r ← exchange s e .rxPrimary
      return afterExchange (fun s => s.goto .s3bSidewait) r

/-- `S3B_SIDEWAIT` (R208): a timeout is silent, an interruption is not. -/
def xcvS3bSidewait (s : State) (e : Env) : State :=
  match readyWait s (some s.cfg.tSideMs) e.ready with
  | (s, .ready) => s.goto .s3bSide
  | (s, .timeout) => s.goto .s3bSide
  | (s, .interrupted) => s.toFail .interrupted

/-- `S3B_SIDE` (R209): the side exchange; an invalid side frame is remembered. It sends what `tx_buf` holds, the poll frame
unless an `FRM.ENC` at the port has overwritten it since `S3B_POLL` (DESIGN CHOICE, log 45). -/
def xcvS3bSide (s : State) (e : Env) : Res State := do
  let r ← exchange s e .rxSide
  if r.2 then return r.1.toFail .transportFault
  else
    let f ← memRead r.1 .rxSide 0 r.1.frameSize
    return { r.1 with
      vars := { r.1.vars with deferredFail := r.1.vars.deferredFail || !check r.1.cfg r.1.frameSize f }
      xcvState := .s3cValidate }

/-- `S3C_VALIDATE` (R211). -/
def xcvS3cValidate (s : State) : Res State := do
  let f ← memRead s .rxPrimary 0 s.frameSize
  if check s.cfg s.frameSize f then return s.goto .s3dAck
  else if s.vars.retxUsed then return s.toFail .corruptResponse
  else return s.goto .retx

/-- `S3D_ACK` (R214): a deferred failure first, then an Acknowledgement. -/
def xcvS3dAck (s : State) : Res State :=
  if s.vars.deferredFail then .ok (s.toFail .protocolError)
  else do
    let h ← memRead s .rxPrimary 0 1
    if byteAt h 0 = s.cfg.mtAck then
      if s.vars.retxUsed then return s.toFail .protocolError else return s.goto .retx
    else return s.goto .s3eType

/-- `S3E_TYPE` (R215, R216). -/
def xcvS3eType (s : State) : Res State := do
  let r ← primaryMessage s
  if byteAt r 0 = s.cfg.mtResponse then
    match txnError s.cfg r with
    | some sub => return s.toFail (.transactionError sub)
    | none => return s.goto .s3fWaitdir
  else return s.toFail .unexpectedMessageType

/-- `S3F_WAITDIR` (R217, R264): a Wait directive sets the next timeout and loops. -/
def xcvS3fWaitdir (s : State) : Res State := do
  let r ← primaryMessage s
  match waitDirective s.cfg r with
  | some us => return { s with vars := { s.vars with timeoutMs := us / 1000, wait := true }, xcvState := .s3aWait }
  | none => return s.goto .s3gApply

/-- The `rid` a refresh preserves: that of the visible descriptor (R262); a free value when none is visible (log 11). -/
def refreshRid (s : State) : BitVec 32 :=
  match s.visible with
  | some d => d.rid
  | none => Config.freeRid s.freeCtr

/-- The refresh begins (R262): the outer transaction is kept aside, the fetch starts with `force = 1`. -/
def beginRefresh (s : State) : State :=
  let t := fetchStart s true (refreshRid s)
  { t with
    xcvOuter := some { caller := s.xcvCaller, vars := s.vars, rxPrimary := s.rxPrimary }
    xcvState := .s3gRefresh
    xcvReturn := none
    freeCtr := s.freeCtr + 1 }

/-- `S3G_APPLY` (R218, R256 to R263). Nesting is one level deep (R416): a nested transaction starts no refresh. -/
def xcvS3gApply (s : State) : Res State := do
  let r ← primaryMessage s
  if confirmedDesc s r && s.xcvOuter.isNone then return beginRefresh (applyLinkParams s r)
  else
    let t := applyLinkParams s r
    return { t with vars := { t.vars with wait := false }, xcvState := .done }

/-- The outer transaction goes on after its refresh: its own variables and its response are back (R262). -/
def endRefresh (s : State) : State :=
  match s.xcvOuter with
  | none => s
  | some o => { s with xcvOuter := none, xcvCaller := o.caller, vars := o.vars, rxPrimary := o.rxPrimary }

/-- `S3G_REFRESH` (R262): one step of the fetch; on its end the outer transaction goes to `DONE` or fails. -/
def xcvS3gRefresh (s : State) (e : Env) : Res State := do
  let r ← fetchStep s e
  match r.2 with
  | .running => return r.1
  | .ok =>
    let t := endRefresh r.1
    return { t with vars := { t.vars with wait := false }, xcvState := .done }
  | .failed => return (endRefresh r.1).toFail .descriptorRefreshFailed

/-- Control after `RETX` (R213, `RETX_REWAIT`). -/
def retxTarget (c : Config) : XcvState := if c.retxRewait then .s3aWait else .s3bPoll

/-- `RETX` (R213): the one retransmit. The backoff changes no state. It sends what `tx_buf` holds, the poll frame unless an
`FRM.ENC` at the port has overwritten it since `S3B_POLL` (DESIGN CHOICE, log 45). -/
def xcvRetx (s : State) (e : Env) : Res State :=
  let s := { s with vars := { s.vars with retxUsed := true, retxPass := true } }
  match s.cfg.retxSource with
  | .newExchange => do
    let r ← exchange s e .rxRetx
    return afterExchange (fun s => s.goto (retxTarget s.cfg)) r
  | .sideBuffer => .ok (s.goto (retxTarget s.cfg))

/-- `DONE` (R220): the response message is decoded into `resp_msg` and returned (log 28). -/
def xcvDone (s : State) : Res State := do
  let m ← primaryMessage s
  let s ← memWrite s .resp 0 m
  return { s with respLen := m.length }.returnXchg ⟨.ok, m⟩

/-- `FAIL e` (R219): one transmission error more, and the error is returned. -/
def xcvFail (s : State) : State :=
  { s with transmissionErrors := bump s.cfg s.transmissionErrors }.returnXchg ⟨s.xcvErr, []⟩

/-- One step of the transceiver (R221). -/
def xcvStep (s : State) (e : Env) : Res State :=
  match s.xcvState with
  | .idle => .ok s
  | .s1Check => xcvS1Check s
  | .s2Send => xcvS2Send s e
  | .s3aWait => .ok (xcvS3aWait s e)
  | .s3bPoll => xcvS3bPoll s e
  | .s3bSidewait => .ok (xcvS3bSidewait s e)
  | .s3bSide => xcvS3bSide s e
  | .s3cValidate => xcvS3cValidate s
  | .s3dAck => xcvS3dAck s
  | .s3eType => xcvS3eType s
  | .s3fWaitdir => xcvS3fWaitdir s
  | .s3gApply => xcvS3gApply s
  | .s3gRefresh => xcvS3gRefresh s e
  | .retx => xcvRetx s e
  | .done => xcvDone s
  | .fail => .ok (xcvFail s)

/-- The issuer may use the link (R191 (b), R436): the foreground owner in any connection state, the poller that owns the
link while `Connected`, the worker in `Initiating` without the arbiter, while no agent holds the link (R84 (a)). The worker
is one agent: it issues nothing at the port while it is inside a transaction of its own sequences (log 13). In `Failed` the
poller passes the gate of the connection state, because U14 names an error kind there, and every other precondition of R191
refuses it as elsewhere (U13; DESIGN CHOICE, log 46). -/
def linkRefusal (s : State) : Option Refusal :=
  match s.portCls with
  | .fg => if s.linkOwner = .fg ∧ s.fgHolder = s.portAgent then none else some .linkNotHeld
  | .bg =>
    if s.connState ≠ .connected ∧ s.connState ≠ .failed then some .wrongConnState
    else if s.linkOwner ≠ .bg then some .linkNotHeld
    else if s.workerInSequence then some .agentBlocked else none
  | .worker =>
    if s.connState ≠ .initiating then some .wrongConnState
    else if s.linkOwner ≠ .none then some .linkBusy
    else if s.workerInSequence then some .agentBlocked else none
  | .consumer => some .wrongClass

/-- An `XCV.XCHG` of the poller in `Failed` that meets every precondition of R191 fails `DeviceGone` (U14), counted as each error
of an `XCV.XCHG` is (R412). No transaction starts (DESIGN CHOICE, log 46). -/
def xchgInFailed (s : State) : State :=
  { s with transmissionErrors := bump s.cfg s.transmissionErrors }.raise .deviceGone

/-- `XCV.XCHG` at the command port (R191, R200): accepted when the issuer may use the link, the sequencer is idle and the operand
is a message; the result comes from a later step. The poller's fails at once in `Failed` (log 46). -/
def execXcvXchg (s : State) : Host.Outcome State Fault Refusal :=
  match linkRefusal s with
  | some r => .refused r
  | none =>
    if s.xcvState ≠ .idle then .refused .sequencerBusy
    else if isMessage s.cmdData = false then .refused .malformedMessage
    else if s.portCls = .bg ∧ s.connState = .failed then .next (xchgInFailed s)
    else .next (s.startXchg (.port s.portCls s.portAgent) s.cmdData)

end Sys2Proof.Machine
end

