-- ==== Sys2Proof/Machine/Arbiter.lean ====
section
/-! DEFINITION. The link arbiter (44_arbiter.md): `ARB.ACQ.FG`, `ARB.REL.FG`, `ARB.ACQ.BG`, `ARB.REL.BG`, and the three ways a
waiting requester leaves (R285). -/

namespace Sys2Proof.Machine

/-- The foreground requester waits in the arbiter. -/
def State.fgWaits (s : State) (a : Nat) : Bool := s.fgWaiters.any fun w => decide (w.agent = a)

/-- `free` of R284: no owner and no intent. -/
def State.linkFree (s : State) : Bool := decide (s.linkOwner = .none) && decide (s.fgIntent = 0)

/-- The admission step of `ARB.ACQ.FG` (R284, R286): one atomic increment and test. -/
def admitFg (nb : Bool) (s : State) : State :=
  if s.connState ≠ .connected then s.raise .deviceGone
  else if s.linkFree then
    { s with fgIntent := s.fgIntent + 1, linkOwner := .fg, fgHolder := s.portAgent }.answer .ok []
  else if nb then s.raise .busy
  else { s with fgIntent := s.fgIntent + 1, fgWaiters := s.fgWaiters ++ [⟨s.portAgent, false⟩] }

/-- `ARB.ACQ.FG [nb]` (R284): class `Fg` (R436); refused of the current owner (R295), of a requester still waiting, and
while `Connected` with the device not registered, when no requester exists (R433, log 43). -/
def execArbAcqFg (nb : Bool) (s : State) : Host.Outcome State Fault Refusal :=
  if s.portCls ≠ .fg then .refused .wrongClass
  else if s.linkOwner = .fg ∧ s.fgHolder = s.portAgent then .refused .alreadyOwner
  else if s.fgWaits s.portAgent then .refused .agentBlocked
  else if s.connState = .connected ∧ s.registered = false then .refused .notRegistered
  else .next (admitFg nb s)

/-- The release of the foreground owner (R287). -/
def releaseFg (s : State) : State := { s with linkOwner := .none, fgIntent := s.fgIntent - 1 }

/-- `ARB.REL.FG` (R287, R295): the foreground owner, with the sequencer idle. -/
def execArbRelFg (s : State) : Host.Outcome State Fault Refusal :=
  if s.portCls ≠ .fg then .refused .wrongClass
  else if ¬ (s.linkOwner = .fg ∧ s.fgHolder = s.portAgent) then .refused .linkNotHeld
  else if s.xcvState ≠ .idle then .refused .sequencerBusy
  else .next ((releaseFg s).answer .ok [])

/-- The poller's try (R288): it takes a free link, or meets `Busy`. -/
def acquireBg (s : State) : State × Status :=
  if s.linkFree then ({ s with linkOwner := .bg }, .ok) else (s, .busy)

/-- `ARB.ACQ.BG` (R288): class `Bg`, while `Connected` (R436). In `Failed` it fails `DeviceGone` (U14; R436's table refuses it:
DESIGN CHOICE, log 46). -/
def execArbAcqBg (s : State) : Host.Outcome State Fault Refusal :=
  if s.portCls ≠ .bg then .refused .wrongClass
  else if s.connState = .failed then .next (s.raise .deviceGone)
  else if s.connState ≠ .connected then .refused .wrongConnState
  else .next ((acquireBg s).1.answer (acquireBg s).2 [])

/-- The release of the poller, when it may release (R289, R295). -/
def releaseBg (s : State) : Res State := do
  require (s.linkOwner = .bg) .linkNotHeld
  require (s.xcvState = .idle) .sequencerBusy
  return { s with linkOwner := .none }

/-- `ARB.REL.BG` (R289): class `Bg`, while `Connected` (R436). In `Failed` it fails `DeviceGone` and releases nothing (U14;
R436's table refuses it: DESIGN CHOICE, log 46); what R295 calls misuse is refused there as well. -/
def execArbRelBg (s : State) : Host.Outcome State Fault Refusal :=
  if s.portCls ≠ .bg then .refused .wrongClass
  else if s.connState ≠ .connected ∧ s.connState ≠ .failed then .refused .wrongConnState
  else outcome ((releaseBg s).map fun t => if s.connState = .failed then s.raise .deviceGone else t.answer .ok [])

/-- A waiting requester leaves the wait with an error: its intent is withdrawn (R285 (b), (c)). -/
def leaveFg (s : State) (a : Nat) (e : Status) : State :=
  { s with
    fgWaiters := s.fgWaiters.filter (fun w => decide (w.agent ≠ a))
    fgIntent := s.fgIntent - 1 }.deliver .fg a e []

/-- The grant step (R285 (a)): the requester owns the link; its intent was counted at admission. -/
def grantFg (s : State) (a : Nat) : State :=
  { s with
    fgWaiters := s.fgWaiters.filter (fun w => decide (w.agent ≠ a))
    linkOwner := .fg
    fgHolder := a }.deliver .fg a .ok []

/-- The requester's wait began in a connection that has ended, or the slot is not `Connected` (R285, log 15). -/
def waiterGone (s : State) (a : Nat) : Bool :=
  decide (s.connState ≠ .connected) || s.fgWaiters.any fun w => decide (w.agent = a) && w.gone

/-- A waiting requester's turn (R285): it leaves with `DeviceGone` once the slot has left `Connected`, it is granted the
link when there is no owner, and otherwise it goes on waiting. Which requester has its turn is the scheduler's (R292). -/
def fgTurn (s : State) (a : Nat) : State :=
  if s.fgWaits a then
    if waiterGone s a then leaveFg s a .deviceGone
    else if s.linkOwner = .none then grantFg s a
    else s
  else s

/-- The bounded wait of a requester ends (R285 (b)): `Busy`, unless the slot has left `Connected` while it waited, since
`DeviceGone` comes before `Busy` (R285, R414 (d)). -/
def fgTimeout (s : State) (a : Nat) : State :=
  if s.fgWaits a then leaveFg s a (if waiterGone s a then .deviceGone else .busy) else s

/-- External interruption of a waiting requester (R285 (c)), also of one whose connection has ended: of two reasons to end a
wait either is a legal run (R425, log 15). No effect on a requester that does not wait (R424). -/
def fgInterrupt (s : State) (a : Nat) : State := if s.fgWaits a then leaveFg s a .interrupted else s

end Sys2Proof.Machine
end

