-- ==== Sys2Proof/Machine/Mailbox.lean ====
section
/-! DEFINITION. The notification mailbox (45_mailbox.md): `MBX.CLR`, `MBX.POST`, `MBX.TAKE`, `MBX.GONE`, and the steps of a
consumer inside `MBX.TAKE` (R315). -/

namespace Sys2Proof.Machine

/-- The consumer waiting inside is woken: it looks again (R313, R319). -/
def wakeConsumer (c : Option Consumer) : Option Consumer := c.map fun c => { c with at_ := .look }

/-- `MBX.CLR` (R312): the notification or the sentinel is discarded. -/
def clearMailbox (s : State) : State := { s with mbxLen := 0 }

/-- No consumer is inside `MBX.TAKE` or held at its lock: what R312 says of the moment of `MBX.CLR` (log 31). -/
def State.mailboxVacant (s : State) : Bool := s.mbxInside.isNone && s.mbxHeld.isEmpty

/-- `MBX.CLR` at the port: class `Worker`, in `Initiating` (R436), with no consumer inside or held (R312). -/
def execMbxClr (s : State) : Host.Outcome State Fault Refusal :=
  if s.portCls ≠ .worker then .refused .wrongClass
  else if s.connState ≠ .initiating then .refused .wrongConnState
  else if s.mailboxVacant = false then .refused .mailboxInUse
  else .next ((clearMailbox s).answer .ok [])

/-- `MBX.POST` (R313, R314): the test of the mailbox and its write are one step. -/
def postMailbox (s : State) (d : List Byte) : Res (State × Status) :=
  if s.mbxLen = -1 then .ok (s, .deviceGone)
  else if 0 < s.mbxLen then
    .ok ({ s with notificationsFailed := bump s.cfg s.notificationsFailed }, .mailboxFull)
  else do
    let t ← memWrite s .mbx 0 d
    return ({ t with
      mbxLen := d.length
      notificationsReceived := bump s.cfg s.notificationsReceived
      mbxInside := wakeConsumer s.mbxInside }, .ok)

/-- `MBX.POST` at the port: class `Bg` or `Worker`, while `Connected` (R436), 1 to `MBX_CAPACITY` bytes (R313). On a gone
mailbox it fails `DeviceGone` in every connection state, since R314 makes the operation total, and in `Failed` it fails
`DeviceGone` whatever the mailbox holds (U14); R436's table refuses both outside `Connected` (DESIGN CHOICE, log 46). -/
def execMbxPost (s : State) : Host.Outcome State Fault Refusal :=
  if s.portCls ≠ .bg ∧ s.portCls ≠ .worker then .refused .wrongClass
  else if s.connState ≠ .connected ∧ s.connState ≠ .failed ∧ s.mbxLen ≠ -1 then .refused .wrongConnState
  else if 1 ≤ s.cmdData.length ∧ s.cmdData.length ≤ s.cfg.mbxCapacity then
    if s.connState = .failed then .next (s.raise .deviceGone)
    else outcome ((postMailbox s s.cmdData).map fun r => r.1.answer r.2 [])
  else .refused .operandSize

/-- `MBX.GONE` (R319): the sentinel, and every waiting consumer is woken. -/
def goneMailbox (s : State) : State := { s with mbxLen := -1, mbxInside := wakeConsumer s.mbxInside }

/-- `MBX.GONE` at the port: class `Worker`, while `Connected` or at shutdown (R436). -/
def execMbxGone (s : State) : Host.Outcome State Fault Refusal :=
  if s.portCls ≠ .worker then .refused .wrongClass
  else if s.connState ≠ .connected ∧ s.stop = false then .refused .wrongConnState
  else .next ((goneMailbox s).answer .ok [])

/-- The consumer is inside `MBX.TAKE` or held at its lock. -/
def State.consumerBusy (s : State) (a : Nat) : Bool :=
  s.mbxHeld.contains a || s.mbxInside.any fun c => decide (c.agent = a)

/-- The test-and-set of `ENTER` succeeds (R315): the consumer is inside, and looks next. -/
def enterMailbox (s : State) (a : Nat) (nb : Bool) : State :=
  { s with mbxLock := true, mbxInside := some ⟨a, nb, .look⟩ }

/-- `ENTER` of `MBX.TAKE [nb]` (R315, R317): contention at the lock, or its test-and-set. -/
def takeEnter (nb : Bool) (s : State) : State :=
  if s.mbxLock then
    match s.cfg.mbxContention with
    | .busy => s.raise .busy
    | .hold => if nb then s.raise .wouldBlock else { s with mbxHeld := s.mbxHeld ++ [s.portAgent] }
  else enterMailbox s s.portAgent nb

/-- `MBX.TAKE [nb]` at the port (R315): class `Consumer`, while `Connected` with the device registered (R433, log 43), or with
the sentinel in the mailbox (R436). Its first labelled step is `ENTER`; the look is the consumer's next turn: R315 and R318 give
it several steps, while R120, R84 and D49 know `XCV.XCHG` as the only operation of more than one (DESIGN CHOICE, log 14). In
`Failed` with no sentinel it fails `DeviceGone` (U14; R436's table refuses it: DESIGN CHOICE, log 46). -/
def execMbxTake (nb : Bool) (s : State) : Host.Outcome State Fault Refusal :=
  if s.portCls ≠ .consumer then .refused .wrongClass
  else if s.connState ≠ .connected ∧ s.connState ≠ .failed ∧ s.mbxLen ≠ -1 then .refused .wrongConnState
  else if s.connState ≠ .failed ∧ s.registered = false ∧ s.mbxLen ≠ -1 then .refused .notRegistered
  else if s.consumerBusy s.portAgent then .refused .agentBlocked
  else if s.connState = .failed ∧ s.mbxLen ≠ -1 then .next (s.raise .deviceGone)
  else .next (takeEnter nb s)

/-- The consumer inside leaves with a result; the lock is released on every path out (R315). -/
def leaveMailbox (s : State) (a : Nat) (st : Status) (d : List Byte) : State :=
  { s with mbxLock := false, mbxInside := none }.deliver .consumer a st d

/-- One evaluation of `LOOK` (R315): the sentinel, the data, an empty mailbox. Found empty, a blocking consumer waits in
the same step (R318). -/
def takeLook (s : State) (c : Consumer) : Res State :=
  if s.mbxLen = -1 then .ok (leaveMailbox s c.agent .deviceGone [])
  else if 0 < s.mbxLen then do
    let d ← memRead s .mbx 0 s.mbxLen.toNat
    return leaveMailbox { s with mbxLen := 0 } c.agent .ok d
  else if c.nb then .ok (leaveMailbox s c.agent .wouldBlock [])
  else .ok { s with mbxInside := some { c with at_ := .wait } }

/-- A consumer's turn (R315, R317): inside and looking, it looks; held at a free lock, it enters; otherwise it waits. Which
held consumer enters is the scheduler's (R317). -/
def consumerTurn (s : State) (a : Nat) : Res State :=
  match s.mbxInside with
  | some c => if c.agent = a ∧ c.at_ = .look then takeLook s c else .ok s
  | none =>
    if s.mbxHeld.contains a ∧ s.mbxLock = false then
      .ok (enterMailbox { s with mbxHeld := s.mbxHeld.filter (fun b => decide (b ≠ a)) } a false)
    else .ok s

/-- External interruption of a consumer (R315): held at the lock, or waiting inside; otherwise no effect (R424). -/
def consumerInterrupt (s : State) (a : Nat) : State :=
  if s.mbxHeld.contains a then
    { s with mbxHeld := s.mbxHeld.filter (fun b => decide (b ≠ a)) }.deliver .consumer a .interrupted []
  else
    match s.mbxInside with
    | some c => if c.agent = a ∧ c.at_ = .wait then leaveMailbox s a .interrupted [] else s
    | none => s

end Sys2Proof.Machine
end

