-- ==== Sys2Proof/Machine/Housekeeping.lean ====
section
/-! DEFINITION. The housekeeping operations `LNK.RST`, `STAT.CLR`, `STAT.RD` (R340 to R342). -/

namespace Sys2Proof.Machine

/-- A descriptor after link reset (R340, R52): invalid, stability `Unset`, the `rid` given; every other field unspecified,
a free value (log 10). -/
def unspecifiedDescriptor (n : Nat) (rid : BitVec 32) : Descriptor :=
  { Config.freeDescriptor n with valid := false, fwStability := .unset, rid := rid }

/-- Link reset (R340): the link parameters at their defaults, both descriptors invalid, the current `rid` kept; nothing
else (R52). -/
def linkReset (s : State) : State :=
  { s with
    frameSize := s.cfg.frameSizeDefault
    crcSize := crcSizeDefault
    speedSclk := s.cfg.speedDefaultHz
    descCur := unspecifiedDescriptor s.freeCtr s.descCur.rid
    descPrev := unspecifiedDescriptor (s.freeCtr + 1) (Config.freeDescriptor (s.freeCtr + 1)).rid
    freeCtr := s.freeCtr + 2 }

/-- `LNK.RST` at the port (R340): class `Worker`, in `Initiating` (R436), with the sequencer idle and the link free. -/
def execLnkRst (s : State) : Host.Outcome State Fault Refusal :=
  if s.portCls ≠ .worker then .refused .wrongClass
  else if s.connState ≠ .initiating then .refused .wrongConnState
  else if s.xcvState ≠ .idle then .refused .sequencerBusy
  else if s.linkOwner ≠ .none then .refused .linkBusy
  else .next ((linkReset s).answer .ok [])

/-- The four counters at 0, in one step (R341). -/
def clearStats (s : State) : State :=
  { s with transmissionErrors := 0, notificationsReceived := 0, notificationsFailed := 0, descriptorFailed := 0 }

/-- A transition of R357 out of this connection state issues `STAT.CLR` (R436, log 21). -/
def statClrAdmitted (s : State) : Bool :=
  decide (s.connState = .initiating)
    || (decide (s.connState = .connected) && decide (s.cfg.statResetPolicy = .everyTransition))

/-- `STAT.CLR` at the port (R341): class `Worker`, at the transitions of R357 (R436). -/
def execStatClr (s : State) : Host.Outcome State Fault Refusal :=
  if s.portCls ≠ .worker then .refused .wrongClass
  else if statClrAdmitted s then .next ((clearStats s).answer .ok [])
  else .refused .wrongConnState

/-- The counter an index names (R342). -/
def State.counter (s : State) : Counter → Nat
  | .transmissionErrors => s.transmissionErrors
  | .notificationsReceived => s.notificationsReceived
  | .notificationsFailed => s.notificationsFailed
  | .descriptorFailed => s.descriptorFailed

/-- The bytes of a counter: `CTR_WIDTH / 8`, rounded up (R342). -/
def counterBytes (c : Config) : Nat := (c.ctrWidth + 7) / 8

/-- `STAT.RD k` (R342). Any class, any state. -/
def execStatRd (k : Counter) (s : State) : Host.Outcome State Fault Refusal :=
  .next (s.answer .ok (beBytes (counterBytes s.cfg) (s.counter k)))

end Sys2Proof.Machine
end

