-- ==== Sys2Proof/Machine/Worker.lean ====
section
/-! DEFINITION. The background worker (46_poller_and_host.md): debounce, `CONNECT`, `BG.POLL`, the connection transitions and
shutdown, one definition per position, one operation per step (log 30). -/

namespace Sys2Proof.Machine

/-- The worker is blocked inside a transaction: one runs, and not under a foreground requester's ownership (log 13). -/
def workerBlocked (s : State) : Bool :=
  decide (s.xcvState ≠ .idle) &&
    match s.rootCaller with
    | .port .fg _ => false
    | .port _ _ | .poller | .probe | .fetcher => true

/-- The worker goes to a position. -/
def State.goWorker (s : State) (w : WorkerPos) : State := { s with worker := w }

/-- `STAT.CLR` of a transition other than `Disconnected -> Initiating` (R357): only under the policy `EveryTransition`. -/
def clearStatsByPolicy (s : State) : State :=
  match s.cfg.statResetPolicy with
  | .everyTransition => clearStats s
  | .leaveDisconnected => s

/-- `conn_state` leaves `Connected`: every requester waiting in the arbiter will leave with `DeviceGone` (R285, R354). -/
def leaveConnected (s : State) (c : ConnState) : State :=
  { s with connState := c, fgWaiters := s.fgWaiters.map fun w => { w with gone := true } }

/-- What the worker leaves behind of its own sequence when it gives it up: a fetch in progress and a result not yet read,
unless they are those of a requester's refresh. -/
def dropSequence (s : State) : State := if s.xcvOuter.isNone then { s with fetch := none, xcvReturn := none } else s

/-- The worker has seen `stop` (R358): from `Connected` it unregisters the device first; then, in every connection state, it
issues `MBX.GONE`, which R466 names without a condition and R358 for `Connected` only (DESIGN CHOICE, log 47). -/
def beginStop (s : State) : State :=
  if s.connState = .connected then s.goWorker .stopUnregister else s.goWorker .stopGone

/-- The worker has seen `stop` inside `CONNECT`, after a wait (R423, R349): its fetch, and a result not yet read, are given up. -/
def abandonConnect (s : State) : State := beginStop (dropSequence s)

/-- The slot's state may be discarded (R358, R466, log 20): nothing is in flight, and `MBX.GONE` has been issued, so that the
sentinel stands (log 47). -/
def drained (s : State) : Bool :=
  decide (s.xcvState = .idle) && decide (s.linkOwner = .none) && decide (s.fgIntent = 0) && decide (s.mbxLock = false)
    && s.mbxHeld.isEmpty && decide (s.mbxLen = -1)

/-- An allocation failure (R356): from `Connected` the device is unregistered, if it still is, and the sentinel set before
`Failed`; from another state the slot is `Failed` at once, a fetch or probe of the worker given up. -/
def allocFailure (s : State) : State :=
  if s.connState = .connected then s.goWorker (if s.registered then .failUnregister else .failGone)
  else { dropSequence s with connState := .failed, worker := .failed }

/-- The positions at which a raised allocation failure is taken. At the others it is taken later: once the poller has
released the link, and once a transition whose registration or `STAT.CLR` has been issued is complete; in `Failed`, on the
way to it and at shutdown it has no effect (R356, R358, log 12). -/
def WorkerPos.mayFail : WorkerPos → Bool
  | .debounce _ | .connStat | .connReset | .connMailbox | .connFetch | .connFetching | .connRegister | .probe _ | .probing _
  | .connBackoff | .connDownStat | .pollWait | .pollTest | .pollAcquire | .pollAct _ | .leaveUnregister | .leaveGone
  | .leaveStat => true
  | .connUpStat | .connUp | .connDown | .pollExchange | .pollAwait | .pollRelease _ | .leaveDown | .failUnregister
  | .failGone | .failDown | .failed | .stopUnregister | .stopGone | .stopDrain | .ended => false

/-- One sample of the debounce (R351): the last of `DEBOUNCE_SAMPLES` true ones moves to `Initiating`, a false one starts
over. `stop` is tested first, after the wait between two samples (R423, log 19). R351 fixes neither whether the observation that starts the debounce is one of the samples nor
whether sampling stops at the first false one: here that observation is the first sample, and a false sample ends the
debounce at once (DESIGN CHOICE, log 44). -/
def workerDebounce (s : State) (e : Env) (seen : Nat) : State :=
  if s.stop then beginStop s
  else if e.presence then
    if s.cfg.debounceSamples ≤ seen + 1 then { s with connState := .initiating, worker := .connStat }
    else s.goWorker (.debounce (seen + 1))
  else s.goWorker (.debounce 0)

/-- `C1` (R352): `STAT.CLR`, under either policy (R357). -/
def workerConnStat (s : State) : State := (clearStats s).goWorker .connReset

/-- `C2` (R352, R340): `LNK.RST` once the sequencer is idle and the link free; the worker waits for both. -/
def workerConnReset (s : State) : State :=
  if s.stop then beginStop s
  else if s.xcvState = .idle ∧ s.linkOwner = .none then (linkReset s).goWorker .connMailbox
  else s

/-- `C3` (R352, R312): `MBX.CLR` once no consumer of the last connection is inside `MBX.TAKE` or held at its lock. The worker
waits for them: under the sentinel each leaves with `DeviceGone` at its own turn (R317, R319, log 31). -/
def workerConnMailbox (s : State) : State :=
  if s.stop then beginStop s
  else if s.mailboxVacant then (clearMailbox s).goWorker .connFetch
  else s

/-- `C4` (R352): the fresh fetch begins, `force = 0`, `preserve_rid = 0`. -/
def workerConnFetch (s : State) : State := (fetchStart s false 0).goWorker .connFetching

/-- `C4` goes on: one step of the fetch. `stop` is tested before each, so after the wait for each field transaction (R423, log
19). -/
def workerConnFetching (s : State) (e : Env) : Res State :=
  if s.stop then .ok (abandonConnect s)
  else do
    let r ← fetchStep s e
    match r.2 with
    | .running => return r.1
    | .ok => return r.1.goWorker .connRegister
    | .failed => return r.1.goWorker (.probe 0)

/-- `C5` (R352, R433): registration; a `Fault` leads to `Failed` (R356). -/
def workerConnRegister (s : State) (e : Env) : State :=
  if e.registerOk then { s with registered := true, worker := .connUpStat }
  else { s with connState := .failed, worker := .failed }

/-- `C5`: the transition's `STAT.CLR` (R357). -/
def workerConnUpStat (s : State) : State := (clearStatsByPolicy s).goWorker .connUp

/-- `C5`: `Connected`, the failure count at 0 (R352). -/
def workerConnUp (s : State) : State := { s with failCount := 0, connState := .connected, worker := .pollWait }

/-- `C6` (R353): the probe issues a protocol-version transaction, unless `stop` is set (R423, log 19). -/
def workerProbe (s : State) (tries : Nat) : Res State :=
  if s.stop then .ok (abandonConnect s)
  else do
    require (s.connState = .initiating) .wrongConnState
    require (s.linkOwner = .none) .linkBusy
    require (s.xcvState = .idle) .sequencerBusy
    return (s.startXchg .probe (descReq s.cfg .protoVersion 0)).goWorker (.probing tries)

/-- `C6` (R353): the probe stops at the first `Ok`, or after `RESYNC_RETRIES` attempts. `stop` is tested after the wait for each
attempt (R423, log 19). -/
def workerProbing (s : State) (tries : Nat) : State :=
  match s.xcvReturn with
  | none => s
  | some r =>
    if s.stop then abandonConnect s
    else
      let s := { s with xcvReturn := none }
      if r.status = .ok then s.goWorker .connBackoff
      else if tries + 1 < s.cfg.resyncRetries then s.goWorker (.probe (tries + 1))
      else s.goWorker .connBackoff

/-- `C6` (R353): one consecutive failure more; the backoff changes no state. -/
def workerConnBackoff (s : State) : State := { s with failCount := s.failCount + 1, worker := .connDownStat }

/-- `C6`: the transition's `STAT.CLR` (R357), unless `stop` is set after the backoff (R423, log 19). -/
def workerConnDownStat (s : State) : State :=
  if s.stop then abandonConnect s else (clearStatsByPolicy s).goWorker .connDown

/-- `C6`: back to `Disconnected` (R352). -/
def workerConnDown (s : State) : State := { s with connState := .disconnected, worker := .debounce 0 }

/-- `P1` (R343, R349): the ready-or-stop wait; `stop` is tested after it; an interruption starts it again. -/
def workerPollWait (s : State) (e : Env) : State :=
  let r := readyWait s s.cfg.tPoll e.ready
  if r.1.stop then beginStop r.1
  else if r.2 = .interrupted then r.1
  else r.1.goWorker .pollTest

/-- `P2` (R343, R344): an occupied mailbox skips the poll and counts. -/
def workerPollTest (s : State) : State :=
  if 0 < s.mbxLen then { s with notificationsFailed := bump s.cfg s.notificationsFailed, worker := .pollWait }
  else s.goWorker .pollAcquire

/-- `P3` (R343, R288, R349): `stop` is tested before every attempt; a poller that meets `Busy` tries again. -/
def workerPollAcquire (s : State) : State :=
  if s.stop then beginStop s
  else
    match acquireBg s with
    | (t, .ok) => t.goWorker .pollExchange
    | (t, _) => t

/-- `P4` (R343): the notification-pull transaction is issued under the poller's ownership (R191). R345 takes the pull request
to have 4 bytes; a longer one, which R6 admits, is treated as any request: it may carry a directive (DESIGN CHOICE, log
42). -/
def workerPollExchange (s : State) : Res State := do
  require (s.connState = .connected) .wrongConnState
  require (s.linkOwner = .bg) .linkNotHeld
  require (s.xcvState = .idle) .sequencerBusy
  require (isMessage s.cfg.notifReqMsg = true) .malformedMessage
  return (s.startXchg .poller s.cfg.notifReqMsg).goWorker .pollAwait

/-- `P4` goes on: the result of the pull is read. -/
def workerPollAwait (s : State) : State :=
  match s.xcvReturn with
  | none => s
  | some r => { s with xcvReturn := none, worker := .pollRelease r }

/-- `P4` ends: `ARB.REL.BG` whatever the result (R343, R289). -/
def workerPollRelease (s : State) (r : Reply) : Res State := (releaseBg s).map fun t => t.goWorker (.pollAct r)

/-- `P5` (R343, R345 to R348): a message with a body is posted; after an empty success or a failure the presence line is
read, and a deasserted one starts the disconnect. -/
def workerPollAct (s : State) (e : Env) (r : Reply) : Res State :=
  if r.status = .ok ∧ headerSize < r.data.length then
    (postMailbox s r.data).map fun t => t.1.goWorker .pollWait
  else if e.presence then .ok (s.goWorker .pollWait)
  else .ok (s.goWorker .leaveUnregister)

/-- `unregister` (R354, R356, R358, R433), on the way to a position. -/
def workerUnregister (s : State) (w : WorkerPos) : State := { s with registered := false, worker := w }

/-- `MBX.GONE` (R354, R356, R358), on the way to a position. -/
def workerGone (s : State) (w : WorkerPos) : State := (goneMailbox s).goWorker w

/-- `Connected -> Disconnected` (R354): its `STAT.CLR` (R357). -/
def workerLeaveStat (s : State) : State := (clearStatsByPolicy s).goWorker .leaveDown

/-- `Connected -> Disconnected` (R354), its last action. -/
def workerLeaveDown (s : State) : State := (leaveConnected s .disconnected).goWorker (.debounce 0)

/-- `Connected -> Failed` (R356), its last action. -/
def workerFailDown (s : State) : State := (leaveConnected s .failed).goWorker .failed

/-- `Failed` (R356): the worker is parked and watches `stop` only. -/
def workerFailed (s : State) : State := if s.stop then beginStop s else s

/-- The drain of shutdown (R358, R466): the slot's state is discarded only once nothing is in flight. -/
def workerStopDrain (s : State) : State := if drained s then { s with discarded := true, worker := .ended } else s

/-- One step of the worker's sequences. -/
def workerAdvance (s : State) (e : Env) : Res State :=
  match s.worker with
  | .debounce seen => .ok (workerDebounce s e seen)
  | .connStat => .ok (workerConnStat s)
  | .connReset => .ok (workerConnReset s)
  | .connMailbox => .ok (workerConnMailbox s)
  | .connFetch => .ok (workerConnFetch s)
  | .connFetching => workerConnFetching s e
  | .connRegister => .ok (workerConnRegister s e)
  | .connUpStat => .ok (workerConnUpStat s)
  | .connUp => .ok (workerConnUp s)
  | .probe tries => workerProbe s tries
  | .probing tries => .ok (workerProbing s tries)
  | .connBackoff => .ok (workerConnBackoff s)
  | .connDownStat => .ok (workerConnDownStat s)
  | .connDown => .ok (workerConnDown s)
  | .pollWait => .ok (workerPollWait s e)
  | .pollTest => .ok (workerPollTest s)
  | .pollAcquire => .ok (workerPollAcquire s)
  | .pollExchange => workerPollExchange s
  | .pollAwait => .ok (workerPollAwait s)
  | .pollRelease r => workerPollRelease s r
  | .pollAct r => workerPollAct s e r
  | .leaveUnregister => .ok (workerUnregister s .leaveGone)
  | .leaveGone => .ok (workerGone s .leaveStat)
  | .leaveStat => .ok (workerLeaveStat s)
  | .leaveDown => .ok (workerLeaveDown s)
  | .failUnregister => .ok (workerUnregister s .failGone)
  | .failGone => .ok (workerGone s .failDown)
  | .failDown => .ok (workerFailDown s)
  | .failed => .ok (workerFailed s)
  | .stopUnregister => .ok (workerUnregister s .stopGone)
  | .stopGone => .ok (workerGone s .stopDrain)
  | .stopDrain => .ok (workerStopDrain s)
  | .ended => .ok s

/-- The worker's turn: nothing while it is blocked inside a transaction; an allocation failure where one is taken; else the
next step of its sequences. R356, R357 and R358 do not order an allocation failure and `stop` seen at one turn: the failure is
taken first, so that the slot is `Failed` when `stop` is seen (DESIGN CHOICE, log 12). -/
def workerStep (s : State) (e : Env) : Res State :=
  if workerBlocked s then .ok s
  else if s.allocFailed && s.worker.mayFail then .ok (allocFailure s)
  else workerAdvance s e

end Sys2Proof.Machine
end

