-- ==== Sys2Proof/Machine/Port.lean ====
section
/-! DEFINITION. The command port (R120, R122) and the inputs of the slot (R420 to R424): what each input does, but for
running a decoded instruction. -/

namespace Sys2Proof.Machine

/-- A command presented at the port: the class and number of its agent and its operand bytes stand in the port's registers
(R120). -/
def acceptCommand (s : State) (c : Command) : State := { s with portCls := c.cls, portAgent := c.agent, cmdData := c.data }

/-- An illegal command word (R122): the status `IllegalCommand`, and no other change. -/
def illegalCommand (s : State) : State := s.raise .illegalCommand

/-- The next input, if the head of `inputs` is a command: the command presented, and the state without it. -/
def fetchCommand (s : State) : Option (Command × State) :=
  match s.inputs with
  | .command c :: rest => some (c, acceptCommand { s with inputs := rest } c)
  | _ => none

/-- An agent's turn or an input of the environment, other than a command. -/
def applyInput (s : State) : Input → Res State
  | .command _ => .ok s
  | .xcv e => xcvStep s e
  | .worker e => workerStep s e
  | .fgTurn a => .ok (fgTurn s a)
  | .fgTimeout a => .ok (fgTimeout s a)
  | .consumerTurn a => consumerTurn s a
  | .interrupt .fg a => .ok (fgInterrupt s a)
  | .interrupt .consumer a => .ok (consumerInterrupt s a)
  | .interrupt .bg _ => .ok s
  | .interrupt .worker _ => .ok s
  | .readyEdge => .ok { s with readyLatch := true }
  | .stopSet => .ok { s with stop := true }
  | .allocFailure => .ok { s with allocFailed := true }

/-- The class that issues an operation (R436), the first where several may: what `withFetchWord` presents. -/
def issuerOf : Instr → Cls
  | .crcClr | .crcByte _ | .crcRd | .frmEnc | .frmVal | .frmDec | .xcvXchg | .arbAcqFg _ | .arbRelFg | .statRd _ => .fg
  | .arbAcqBg | .arbRelBg | .mbxPost => .bg
  | .mbxTake _ => .consumer
  | .mbxClr | .mbxGone | .lnkRst | .statClr => .worker

/-- A word placed at the port as the next input, issued by the class that issues its operation (an illegal word by the
class in the port's register), with the agent number and operand bytes of the port's registers (log 26). -/
def placeWord (s : State) (w : Word) : State :=
  let cls := match decode w with
    | .ok i => issuerOf i
    | .error _ => s.portCls
  { s with inputs := .command ⟨cls, s.portAgent, w, s.cmdData⟩ :: s.inputs }

end Sys2Proof.Machine
end

