-- ==== Sys2Proof/Machine/Dispatch.lean ====
section
/-! DEFINITION. One arm per operation: each calls its meaning. -/

namespace Sys2Proof.Machine

def exec (i : Instr) (s : State) : Host.Outcome State Fault Refusal :=
  match i with
  | .crcClr => Sys2Proof.Machine.execCrcClr s
  | .crcByte bb => Sys2Proof.Machine.execCrcByte bb s
  | .crcRd => Sys2Proof.Machine.execCrcRd s
  | .frmEnc => Sys2Proof.Machine.execFrmEnc s
  | .frmVal => Sys2Proof.Machine.execFrmVal s
  | .frmDec => Sys2Proof.Machine.execFrmDec s
  | .xcvXchg => Sys2Proof.Machine.execXcvXchg s
  | .arbAcqFg nb => Sys2Proof.Machine.execArbAcqFg nb s
  | .arbRelFg => Sys2Proof.Machine.execArbRelFg s
  | .arbAcqBg => Sys2Proof.Machine.execArbAcqBg s
  | .arbRelBg => Sys2Proof.Machine.execArbRelBg s
  | .mbxClr => Sys2Proof.Machine.execMbxClr s
  | .mbxPost => Sys2Proof.Machine.execMbxPost s
  | .mbxTake nb => Sys2Proof.Machine.execMbxTake nb s
  | .mbxGone => Sys2Proof.Machine.execMbxGone s
  | .lnkRst => Sys2Proof.Machine.execLnkRst s
  | .statClr => Sys2Proof.Machine.execStatClr s
  | .statRd k => Sys2Proof.Machine.execStatRd k s

end Sys2Proof.Machine
end

