-- ==== Sys2Proof/Machine/Step.lean ====
section
/-! DEFINITION. One step of the slot: the next input happens (R84), and the placing of a word where the next step fetches. -/

namespace Sys2Proof.Machine

/-- One atomic transition of the slot (R84). Nothing steps once the state is discarded (R466); a `Config` that breaks a
constraint is refused (R6). A command's word is decoded and its operation runs; an illegal word answers `IllegalCommand`
(R122). With no input left nothing happens (log 2). -/
def step (s : State) : Host.Outcome State Fault Refusal :=
  if s.discarded then .refused .slotDiscarded
  else if s.cfg.wf = false then .refused .illFormedConfig
  else
    match s.inputs with
    | [] => .next s
    | .command c :: rest =>
      match decode c.word with
      | .ok i => exec i (acceptCommand { s with inputs := rest } c)
      | .error _ => .next (illegalCommand (acceptCommand { s with inputs := rest } c))
    | i :: rest => outcome (applyInput { s with inputs := rest } i)

/-- The instruction word stored where the next step fetches it: presented at the command port as the next input. A command
word has 16 bits; the bits above `nbits` are zero. -/
def State.withFetchWord (s : State) (nbits w : Nat) : State := placeWord s (BitVec.ofNat 16 (w % 2 ^ nbits))

end Sys2Proof.Machine
end

