-- ==== Sys2Proof/Machine/Pseudo.lean ====
section
/-! DEFINITION. The pseudo-operations that are fixed sequences of commands (R124): `CRC.BLK` and `FG.WRITE`. `BG.POLL` and
`CONNECT` are stretches of the worker's automaton (Machine/Worker.lean). -/

namespace Sys2Proof.Machine

/-- `CRC.BLK s` (R124, R149): `CRC.CLR`, a `CRC.BYTE` for each byte, `CRC.RD`. -/
def crcBlk (s : List Byte) : List Instr := .crcClr :: s.map .crcByte ++ [.crcRd]

/-- Operations run one after another by one agent, with no other step between them. -/
def execAll : List Instr → State → Host.Outcome State Fault Refusal
  | [], s => .next s
  | i :: is, s =>
    match exec i s with
    | .next t => execAll is t
    | .fault f => .fault f
    | .refused r => .refused r

/-- Where a requester stands in `FG.WRITE m [nb]` (R291). -/
inductive FgWritePhase
  | acquire
  | exchange
  | release (result : Reply)
  | finished (result : Reply)
  deriving DecidableEq, Repr

/-- The operation the requester issues in a phase of `FG.WRITE m [nb]`, with its operand (R291). -/
def fgWriteIssue (m : List Byte) (nb : Bool) : FgWritePhase → Option (Instr × List Byte)
  | .acquire => some (.arbAcqFg nb, [])
  | .exchange => some (.xcvXchg, m)
  | .release _ => some (.arbRelFg, [])
  | .finished _ => none

/-- The phase after the result of the operation issued in a phase (R291): the acquire's error is the result; the link is
released whatever the transaction returned; the result is the transaction's. -/
def fgWriteNext : FgWritePhase → Reply → FgWritePhase
  | .acquire, r => if r.status = .ok then .exchange else .finished r
  | .exchange, r => .release r
  | .release r, _ => .finished r
  | .finished r, _ => .finished r

end Sys2Proof.Machine
end

