-- ==== Sys2Proof/Machine/System.lean ====
section
/-! DEFINITION. A system of several slots (R441): a mapping from slot ids to slots, constructed once at startup, which
share nothing (log 32). -/

namespace Sys2Proof.Machine

/-- The slots of a system, each under its logical id (R441). -/
abbrev System := List (Nat × State)

/-- The system that the slot configuration makes at startup: for each configured logical id one slot right after allocation
reset, under its `Config` and with that id as its `slot_id` (R441, R52). -/
def System.startup (slots : List (Nat × Config)) : System := slots.map fun p => (p.1, State.resetWith p.2 p.1)

/-- The logical ids of a system, fixed from startup on: no slot is registered later (R441). -/
def System.ids (y : System) : List Nat := y.map Prod.fst

/-- The ids of a system identify its slots: no id stands twice, and each slot's `slot_id` is the id it stands under (R441). -/
abbrev System.wf (y : System) : Prop := y.ids.Nodup ∧ ∀ p ∈ y, p.2.slotId = p.1

/-- The slot of an id. -/
def System.slot : System → Nat → Option State
  | [], _ => none
  | (k, s) :: rest, id => if k = id then some s else System.slot rest id

/-- The system with the slot of an id replaced. -/
def System.setSlot : System → Nat → State → System
  | [], _, _ => []
  | (k, s) :: rest, id, t => if k = id then (k, t) :: rest else (k, s) :: System.setSlot rest id t

/-- A step of one slot of the system (R441); an id that names no slot has none. -/
def System.stepSlot (y : System) (id : Nat) : Host.Outcome System Fault Refusal :=
  match y.slot id with
  | none => .next y
  | some s =>
    match step s with
    | .next t => .next (y.setSlot id t)
    | .fault f => .fault f
    | .refused r => .refused r

end Sys2Proof.Machine
end

