-- ==== Sys2Proof/Safety.lean ====
section
/-! DEFINITION. What counts as a sound slot and a safe run: the invariants of R50, R51, R73, R283, R320, in the terms the
claims use. Every predicate but the two on a field's result (`fieldTaken`, `fieldFails`) is decidable, so that a witness can
be checked. -/

namespace Sys2Proof

open Machine

/-- The byte at an offset of a buffer, if one has been written. -/
def Machine.State.byte (s : State) (b : BufName) (off : Nat) : Option Byte := (s.buf b).get off

/-- The eight buffers. -/
def allBuffers : List BufName := [.tx, .rxScratch, .rxPrimary, .rxSide, .rxRetx, .req, .resp, .mbx]

/-- A buffer's contents: the canonical form, within a capacity (R70, R72). -/
abbrev memoryOk (cap : Nat) (m : Memory) : Prop := m.wf ∧ ∀ c ∈ m, c.1 < cap

/-- Every buffer, and the primary buffer kept aside by a refresh, is canonical and within its capacity. -/
abbrev buffersOk (s : State) : Prop :=
  (∀ b ∈ allBuffers, memoryOk (capacity s.cfg b) (s.buf b)) ∧
    ∀ o ∈ s.xcvOuter, memoryOk s.cfg.maximumFrameSize o.rxPrimary

/-- A frame size within the bounds of R51. -/
abbrev frameSizeOk (c : Config) (n : Nat) : Prop := c.frameSizeMin ≤ n ∧ n ≤ c.maximumFrameSize

/-- The link parameters (R51), and a pending frame size that would keep them (R258). -/
abbrev linkParamsOk (s : State) : Prop :=
  frameSizeOk s.cfg s.frameSize ∧ s.crcSize = 2 ∧ (∀ n ∈ s.vars.pendingFrameSize, frameSizeOk s.cfg n) ∧
    ∀ o ∈ s.xcvOuter, ∀ n ∈ o.vars.pendingFrameSize, frameSizeOk s.cfg n

/-- The arbiter (R283 (a), (b)): the intents are the waiting requesters and the owner, each requester once. -/
abbrev arbiterOk (s : State) : Prop :=
  s.fgIntent = s.fgWaiters.length + (if s.linkOwner = .fg then 1 else 0) ∧ (s.fgWaiters.map FgWaiter.agent).Nodup

/-- The mailbox (R51, R320): the length is -1 or within the capacity, the lock is held exactly while a consumer is inside. -/
abbrev mailboxOk (s : State) : Prop :=
  (s.mbxLen = -1 ∨ (0 ≤ s.mbxLen ∧ s.mbxLen ≤ s.cfg.mbxCapacity)) ∧ s.mbxLock = s.mbxInside.isSome

/-- The statistics counters have `CTR_WIDTH` bits (R42). -/
abbrev countersOk (s : State) : Prop :=
  s.transmissionErrors < 2 ^ s.cfg.ctrWidth ∧ s.notificationsReceived < 2 ^ s.cfg.ctrWidth ∧
    s.notificationsFailed < 2 ^ s.cfg.ctrWidth ∧ s.descriptorFailed < 2 ^ s.cfg.ctrWidth

/-- The root issuer of a transaction in progress may use the link (R191 (b), R436). -/
def mayUseLink (s : State) : Caller → Bool
  | .port .fg a => decide (s.linkOwner = .fg) && decide (s.fgHolder = a)
  | .port .bg _ | .poller => decide (s.linkOwner = .bg) && decide (s.connState = .connected)
  | .port .worker _ | .probe | .fetcher => decide (s.connState = .initiating) && decide (s.linkOwner = .none)
  | .port .consumer _ => false

/-- At most one transaction is in flight, under the ownership of its issuer (R50; during `Initiating` the worker's own, log
25). -/
abbrev linkExclusive (s : State) : Prop :=
  (s.xcvState ≠ .idle → mayUseLink s s.rootCaller = true) ∧ (s.xcvOuter.isSome = true → s.xcvState ≠ .idle)

/-- The invariant of a slot (R50, R51, R283, R320). -/
abbrev SlotInv (s : State) : Prop :=
  s.cfg.wf = true ∧ buffersOk s ∧ linkParamsOk s ∧ arbiterOk s ∧ mailboxOk s ∧ countersOk s ∧ linkExclusive s

/-- The first `n` bytes of a buffer have been written. -/
abbrev written (m : Memory) (n : Nat) : Prop := ∀ a ∈ List.range n, (m.get a).isSome = true

/-- A primary buffer holds a whole message: its header and the bytes its length field counts (R168). -/
abbrev holdsMessage (m : Memory) (bound : Nat) : Prop :=
  written m headerSize ∧ ∀ h ∈ m.read 0 headerSize, lengthField h ≤ bound ∧ written m (lengthField h)

/-- What each sequencer state will read has been written (R73): the request, the frame to send, the frame received. -/
def sequencerReady (s : State) : Bool :=
  match s.xcvState with
  | .idle | .s1Check | .fail => true
  | .s3gRefresh => s.xcvOuter.isSome
  | .s2Send => decide (written s.reqMsg s.reqLen)
  | .s3aWait | .s3bPoll =>
    !s.vars.retxPass ||
      (decide (written s.txBuf s.frameSize) && decide (written (s.buf (retxBuffer s.cfg)) s.frameSize)
        && decide (written s.rxSide s.frameSize))
  | .s3bSidewait | .s3bSide =>
    !s.vars.retxPass && decide (written s.txBuf s.frameSize) && decide (written s.rxPrimary s.frameSize)
  | .s3cValidate | .retx =>
    !s.vars.retxPass && decide (written s.txBuf s.frameSize) && decide (written s.rxPrimary s.frameSize)
      && decide (written s.rxSide s.frameSize)
  | .s3dAck =>
    !s.vars.retxPass && decide (written s.txBuf s.frameSize) && decide (written s.rxPrimary s.frameSize)
      && decide (written s.rxSide s.frameSize) && decide (holdsMessage s.rxPrimary (s.frameSize - 2))
  | .s3eType | .s3fWaitdir =>
    !s.vars.retxPass && decide (holdsMessage s.rxPrimary (s.cfg.maximumFrameSize - 2))
  | .s3gApply | .done => decide (holdsMessage s.rxPrimary (s.cfg.maximumFrameSize - 2))

/-- Every byte a later step reads has been written (R73): of the sequencer, of a transaction kept aside, of the mailbox. -/
abbrev bytesReady (s : State) : Prop :=
  sequencerReady s = true ∧ (∀ o ∈ s.xcvOuter, holdsMessage o.rxPrimary (s.cfg.maximumFrameSize - 2)) ∧
    written s.mbxBuf s.mbxLen.toNat

/-- A slot that steps: its state is not discarded and its `Config` is well formed. -/
abbrev live (s : State) : Prop := s.discarded = false ∧ s.cfg.wf = true

/-- With an input first in line, the next step leads from `s` to `t`, and the input is used up. -/
abbrev Runs (s : State) (x : Input) (t : State) : Prop :=
  ∀ rest, step { s with inputs := x :: rest } = .next { t with inputs := rest }

/-- The transceiver's steps with these answers of the environment, one after another, no other agent between them. -/
def runXcv : List Env → State → Machine.Res State
  | [], s => .ok s
  | e :: es, s =>
    match xcvStep s e with
    | .ok t => runXcv es t
    | .error x => .error x

/-- The primary buffer holds the message `m` (R110 (a), R170). -/
abbrev primaryHolds (s : State) (m : List Byte) : Prop :=
  ∃ h, s.rxPrimary.read 0 headerSize = some h ∧ s.rxPrimary.read 0 (lengthField h) = some m ∧
    m.length ≤ s.cfg.maximumFrameSize - 2

/-- What the Transport returns at a step is a valid Response frame, of the message `m`, that is neither a transaction error nor
a Wait directive (R224 (a)). -/
abbrev answersWith (s : State) (e : Env) (m : List Byte) : Prop :=
  validateFrame s.cfg s.frameSize (fit s.frameSize e.rx) = .ok ∧ decodeFrame s.frameSize (fit s.frameSize e.rx) = .ok m ∧
    byteAt m 0 = s.cfg.mtResponse ∧ txnError s.cfg m = none ∧ waitDirective s.cfg m = none

/-- The connection state in which the worker stands at a position (R343, R351 to R358). -/
def WorkerPosIn : WorkerPos → ConnState → Bool
  | .debounce _, c => decide (c = .disconnected)
  | .connStat, c | .connReset, c | .connMailbox, c | .connFetch, c | .connFetching, c | .connRegister, c | .connUpStat, c
  | .connUp, c | .probe _, c | .probing _, c | .connBackoff, c | .connDownStat, c | .connDown, c =>
    decide (c = .initiating)
  | .pollWait, c | .pollTest, c | .pollAcquire, c | .pollExchange, c | .pollAwait, c | .pollRelease _, c | .pollAct _, c
  | .leaveUnregister, c | .leaveGone, c | .leaveStat, c | .leaveDown, c | .failUnregister, c | .failGone, c
  | .failDown, c | .stopUnregister, c => decide (c = .connected)
  | .failed, c => decide (c = .failed)
  | .stopGone, _ | .stopDrain, _ | .ended, _ => true

/-- The positions at which the device may be registered (R352 to R358). -/
def WorkerPosRegistered : WorkerPos → Bool
  | .connUpStat | .connUp | .pollWait | .pollTest | .pollAcquire | .pollExchange | .pollAwait | .pollRelease _
  | .pollAct _ | .leaveUnregister | .failUnregister | .stopUnregister => true
  | .debounce _ | .connStat | .connReset | .connMailbox | .connFetch | .connFetching | .connRegister | .probe _
  | .probing _ | .connBackoff | .connDownStat | .connDown | .leaveGone | .leaveStat | .leaveDown | .failGone | .failDown
  | .failed | .stopGone | .stopDrain | .ended => false

/-- The positions of the shutdown (R358). -/
def WorkerPosStopping : WorkerPos → Bool
  | .stopUnregister | .stopGone | .stopDrain | .ended => true
  | .debounce _ | .connStat | .connReset | .connMailbox | .connFetch | .connFetching | .connRegister | .connUpStat
  | .connUp | .probe _ | .probing _ | .connBackoff | .connDownStat | .connDown | .pollWait | .pollTest | .pollAcquire
  | .pollExchange | .pollAwait | .pollRelease _ | .pollAct _ | .leaveUnregister | .leaveGone | .leaveStat | .leaveDown
  | .failUnregister | .failGone | .failDown | .failed => false

/-- The worker's position agrees with the connection state, the registration, the stop flag and, once the shutdown drains the
slot, the gone-sentinel (R350 to R358, R466), which only an `MBX.CLR` of the worker in `Initiating` could clear. -/
abbrev workerOk (s : State) : Prop :=
  WorkerPosIn s.worker s.connState = true ∧ (s.registered = true → WorkerPosRegistered s.worker = true) ∧
    (WorkerPosStopping s.worker = true → s.stop = true) ∧
    ((s.worker = .stopDrain ∨ s.worker = .ended) → s.connState ≠ .initiating → s.mbxLen = -1)

/-- The transitions of R357 that change `conn_state`. -/
abbrev connTransition (a b : ConnState) : Prop :=
  (a, b) ∈ [(ConnState.disconnected, ConnState.initiating), (.initiating, .connected), (.initiating, .disconnected),
    (.initiating, .failed), (.connected, .disconnected), (.connected, .failed), (.disconnected, .failed)]

/-- Where the bytes of a fixed field go in a record, one row per field that is not chained (R361, R364). The firmware's
stability byte decodes 1, 2, 3, and any other value keeps the record's own (R366). -/
def fixedInto (c : Config) (bytes : List Byte) (d : Descriptor) : List (DescField × Descriptor) :=
  let n (f : DescField) (k : Nat) := fieldValue c f k bytes
  [ (.protoVersion, { d with protoVersion := ⟨n .protoVersion 0, n .protoVersion 1, n .protoVersion 2⟩ }),
    (.hwVersion, { d with hwVersion := ⟨n .hwVersion 0, n .hwVersion 1, n .hwVersion 2⟩ }),
    (.fwVersion, { d with
      fwStability :=
        if n .fwVersion 0 = 1 then .alpha
        else if n .fwVersion 0 = 2 then .beta
        else if n .fwVersion 0 = 3 then .stable
        else d.fwStability
      fwVersion := ⟨n .fwVersion 1, n .fwVersion 2, n .fwVersion 3⟩ }),
    (.maxClock, { d with maxSclkSpeed := n .maxClock 0 }),
    (.maxFrame, { d with maxFrameSize := n .maxFrame 0 }),
    (.power0, { d with maxPower0 := n .power0 0 }),
    (.power1, { d with maxPower1 := n .power1 0 }),
    (.power2, { d with maxPower2 := n .power2 0 }),
    (.serial, { d with serial := bytes }),
    (.bootloader, { d with bootloaderState := bytes }) ]

/-- Where a chunk goes in a record, one row per chained field (R362). -/
def chunkInto (bytes : List Byte) (d : Descriptor) : List (DescField × Descriptor) :=
  [ (.vpId, { d with vpId := d.vpId ++ bytes }),
    (.vendorName, { d with vendorName := d.vendorName ++ bytes }),
    (.productName, { d with productName := d.productName ++ bytes }) ]

/-- The result `r` of the current field `f` takes the fetch from `st` to `st'` (R362 to R364): a fixed field is stored and the
next one begins; a chunk that fits is appended, and its chaining flag says whether the field goes on. That the length `n` of
a chunk is the number of its bytes, and that a serial code has exactly `SERIAL_SIZE` bytes, is the model's reading (log 18). -/
abbrev fieldTaken (c : Config) (st : FetchState) (f : DescField) (rest : List DescField) (r : Reply) (st' : FetchState) :
    Prop :=
  r.status = .ok ∧
    ((∃ bytes d, descParse c f r.data = .fixed bytes ∧ (f, d) ∈ fixedInto c bytes st.scratch ∧
        (f = .serial → bytes.length = c.serialSize) ∧
        st' = { st with scratch := d, todo := rest, chunk := 0, total := 0, awaiting := false }) ∨
      ∃ chain bytes d, descParse c f r.data = .chunk chain bytes ∧ (f, d) ∈ chunkInto bytes st.scratch ∧
        st.total + bytes.length ≤ c.fieldCapacity ∧
        st' = if chain = true
          then { st with scratch := d, chunk := st.chunk + 1, total := st.total + bytes.length, awaiting := false }
          else { st with scratch := d, todo := rest, chunk := 0, total := 0, awaiting := false })

/-- The result `r` of the current field `f` fails the fetch (R362 to R365): a failed transaction, the sentinel, a malformed
response, an answer of the other form, a serial code of another size, a chunk that exceeds the field's capacity (R363). That
a chunk answer fails a fixed field, that a serial code of another size fails, and that the length of a chunk is the number of
its bytes, is the model's reading (log 18). -/
abbrev fieldFails (c : Config) (st : FetchState) (f : DescField) (r : Reply) : Prop :=
  r.status ≠ .ok ∨ descParse c f r.data = .sentinel ∨ descParse c f r.data = .malformed ∨
    (∃ bytes, descParse c f r.data = .fixed bytes ∧
      (f ∈ [DescField.vpId, .vendorName, .productName] ∨ (f = .serial ∧ bytes.length ≠ c.serialSize))) ∨
    ∃ chain bytes, descParse c f r.data = .chunk chain bytes ∧
      (f ∉ [DescField.vpId, .vendorName, .productName] ∨ c.fieldCapacity < st.total + bytes.length)

end Sys2Proof
end

