-- ==== Sys2Proof/Certificates/Slice0/Obligations.lean ====
section
/-! DEFINITION. The statements for the provers. -/

open Sys2Proof Sys2Proof.Machine

/-! Encoding and the step. -/

/-- Words written out from the table of R121 decode to the operations they stand for, one at least of each unit. -/
def Obligations.DecodeSampleWords : Prop :=
  decode 0x1000 = .ok .crcClr ∧ decode 0x1131 = .ok (.crcByte 0x31) ∧ decode 0x1200 = .ok .crcRd ∧
    decode 0x2000 = .ok .frmEnc ∧ decode 0x2100 = .ok .frmVal ∧ decode 0x2200 = .ok .frmDec ∧
    decode 0x3000 = .ok .xcvXchg ∧ decode 0x4000 = .ok (.arbAcqFg false) ∧ decode 0x4001 = .ok (.arbAcqFg true) ∧
    decode 0x4300 = .ok .arbRelBg ∧ decode 0x5201 = .ok (.mbxTake true) ∧ decode 0x5300 = .ok .mbxGone ∧
    decode 0x6000 = .ok .lnkRst ∧ decode 0x7000 = .ok .statClr ∧ decode 0x7102 = .ok (.statRd .notificationsFailed) ∧
    decode 0x7103 = .ok (.statRd .descriptorFailed)

/-- A word decodes to an operation exactly when it is the word that operation is encoded as: decoding gives every operation
back, and no two words stand for one operation (R120, R121). -/
def Obligations.DecodeIffEncode : Prop := ∀ (w : Word) (i : Instr), decode w = .ok i ↔ w = encode i

/-- R122: a word that matches no row of the table under the row's mask is answered `IllegalCommand`, and the step changes
nothing else: the port's registers take what was presented, the input is used up. The all-zero and all-ones words match no
row. -/
def Obligations.IllegalWordAnswered : Prop :=
  (∀ (s : State) (c : Command) (rest : List Input), live s → s.inputs = .command c :: rest →
    (∀ r ∈ opcodeTable, r.holds c.word = false) →
      step s = .next { s with
        inputs := rest
        portCls := c.cls
        portAgent := c.agent
        cmdData := c.data
        answers := ⟨c.cls, c.agent, .illegalCommand, []⟩ :: s.answers }) ∧
    (∀ r ∈ opcodeTable, r.holds 0x0000 = false) ∧ ∀ r ∈ opcodeTable, r.holds 0xFFFF = false

/-- A step whose next input is a command with a legal word is the execution of the decoded operation, once the port's
registers hold what was presented and the input is used up (R120, R84). -/
def Obligations.StepRunsDecoded : Prop :=
  ∀ (s : State) (c : Command) (rest : List Input) (i : Instr), live s → s.inputs = .command c :: rest →
    decode c.word = .ok i →
      step s = exec i { s with inputs := rest, portCls := c.cls, portAgent := c.agent, cmdData := c.data }

/-! The CRC unit. -/

/-- R146: `CRC.CLR` sets the accumulator to `CRC_INIT`, from any class in any state; everything else stands. -/
def Obligations.CrcClrSetsInit : Prop :=
  ∀ s : State, exec .crcClr s = .next { s with
    crcAcc := s.cfg.crcInit
    crcWritten := true
    answers := ⟨s.portCls, s.portAgent, .ok, []⟩ :: s.answers }

/-- R147: `CRC.BYTE bb` folds the byte into the accumulator, and everything else stands; it is refused while nothing has
written the accumulator (R142). -/
def Obligations.CrcByteFolds : Prop :=
  ∀ (s : State) (bb : Byte),
    (s.crcWritten = true → exec (.crcByte bb) s = .next { s with
      crcAcc := crcStep s.cfg s.crcAcc bb
      answers := ⟨s.portCls, s.portAgent, .ok, []⟩ :: s.answers }) ∧
    (s.crcWritten = false → exec (.crcByte bb) s = .refused .crcUnwritten)

/-- R148: `CRC.RD` answers the accumulator xor `CRC_XOROUT`, high byte first, and changes nothing; it is refused while
nothing has written the accumulator. -/
def Obligations.CrcRdAnswers : Prop :=
  ∀ s : State,
    (s.crcWritten = true → exec .crcRd s = .next { s with
      answers := ⟨s.portCls, s.portAgent, .ok,
        [(s.crcAcc ^^^ s.cfg.crcXorout).extractLsb' 8 8, (s.crcAcc ^^^ s.cfg.crcXorout).extractLsb' 0 8]⟩ :: s.answers }) ∧
    (s.crcWritten = false → exec .crcRd s = .refused .crcUnwritten)

/-- R144: the table-driven byte step is the bit-serial one, for every polynomial, accumulator and byte, of either reflection:
eight shifts to the left from `acc ^ (b << 8)` by the polynomial, or eight to the right from `acc ^ b` by the reversed one,
which is 0x8408 for the polynomial of REFCFG. The entries `T[i]` and `TR[i]` are those eight shifts from `i << 8` and from
`i`. -/
def Obligations.CrcStepForms : Prop :=
  (∀ (c : Config) (acc : Word) (b : Byte), c.crcRefin = false →
    crcStep c acc b = (acc <<< 8) ^^^ crcTable c.crcPoly (acc.extractLsb' 8 8 ^^^ b) ∧
      crcStep c acc b = (shiftLeftStep c.crcPoly)^[8] (acc ^^^ (b.setWidth 16 <<< 8))) ∧
    (∀ (c : Config) (acc : Word) (b : Byte), c.crcRefin = true →
      crcStep c acc b = (acc >>> 8) ^^^ crcTableReflected c.crcPoly (acc.extractLsb' 0 8 ^^^ b) ∧
        crcStep c acc b = (shiftRightStep c.crcPoly.reverse)^[8] (acc ^^^ b.setWidth 16)) ∧
    (∀ (p : Word) (i : Byte), crcTable p i = (shiftLeftStep p)^[8] (i.setWidth 16 <<< 8) ∧
      crcTableReflected p i = (shiftRightStep p.reverse)^[8] (i.setWidth 16)) ∧
    (∀ p c : Word, shiftLeftStep p c = (if c.getLsbD 15 = true then (c <<< 1) ^^^ p else c <<< 1) ∧
      shiftRightStep p c = if c.getLsbD 0 = true then (c >>> 1) ^^^ p else c >>> 1) ∧
    refcfg.crcPoly = 0x1021 ∧ refcfg.crcPoly.reverse = 0x8408

/-- R149: `CRC.BLK` over any byte string, from any state, answers `crc16` of the string, high byte first, and leaves the
accumulator at `crc16` of it xor `CRC_XOROUT`; besides the accumulator only the answers change. -/
def Obligations.CrcBlkComputesCrc : Prop :=
  ∀ (s : State) (bytes : List Byte), ∃ t,
    execAll (crcBlk bytes) s = .next t ∧
      t = { s with crcAcc := crc16 s.cfg bytes ^^^ s.cfg.crcXorout, crcWritten := true, answers := t.answers } ∧
      t.answers = ⟨s.portCls, s.portAgent, .ok, wordBytes (crc16 s.cfg bytes)⟩ ::
        (List.replicate (bytes.length + 1) ⟨s.portCls, s.portAgent, .ok, []⟩ ++ s.answers)

/-- R150: a string followed by its CRC has residue 0, whatever the generator; and for a generator with a constant term a frame
passes the CRC comparison exactly when `crc16` of all its bytes is 0. -/
def Obligations.CrcResidueZero : Prop :=
  ∀ c : Config, c.crcRefin = false → c.crcXorout = 0 → c.crcTrailerBe = true →
    (∀ m : List Byte, crc16 c (m ++ wordBytes (crc16 c m)) = 0) ∧
      ∀ (n : Nat) (f : List Byte), c.crcPoly.getLsbD 0 = true → 2 ≤ n → f.length = n → (validateFrame c n f ≠ .crcMismatch ↔ crc16 c f = 0)

/-- R151, for every unreflected `Config` whose generator has a constant term (REFCFG's is such): changing any single byte of
an encoded frame, at any offset, makes `validate` answer `CrcMismatch`. -/
def Obligations.SingleByteDetected : Prop :=
  ∀ (c : Config) (n : Nat) (m f : List Byte) (i : Nat) (d : Byte), c.crcRefin = false → c.crcPoly.getLsbD 0 = true →
    isMessage m = true → encodeFrame c n m = .ok f → i < n → d ≠ 0 →
      validateFrame c n (f.set i (byteAt f i ^^^ d)) = .crcMismatch

/-! The frame codec. -/

/-- R162: `FRM.ENC` of a message that fits answers the frame of R100 (the message, the fill, the CRC of the bytes before the
trailer in the order of R77), stores it in `tx_buf` from offset 0 and sets `crc_size`; every other byte and register
stands. -/
def Obligations.FrmEncBuildsFrame : Prop :=
  ∀ s : State, isMessage s.cmdData = true → s.cmdData.length ≤ s.frameSize - 2 →
    s.cmdData.length ≤ s.cfg.crc16MaxLength → s.frameSize ≤ s.cfg.maximumFrameSize →
      ∃ f t, exec .frmEnc s = .next t ∧ f.length = s.frameSize ∧ f.take s.cmdData.length = s.cmdData ∧
        (∀ i, s.cmdData.length ≤ i → i < s.frameSize - 2 → f[i]? = some s.cfg.padByte) ∧
        f.drop (s.frameSize - 2) = trailer s.cfg (crc16 s.cfg (f.take (s.frameSize - 2))) ∧
        t = { s with
          txBuf := t.txBuf
          crcSize := 2
          answers := ⟨s.portCls, s.portAgent, .ok, f⟩ :: s.answers } ∧
        ∀ a, t.byte .tx a = if a < s.frameSize then f[a]? else s.byte .tx a

/-- R163 to R165: a length that selects the 4-byte CRC answers `NotSupported`, before the length is compared; a length above
`frame_size - 2` answers `FrameTooLarge`; neither changes any register or buffer. A message whose length field is not its
byte count, or that is shorter than 4 bytes, is refused. -/
def Obligations.FrmEncErrors : Prop :=
  ∀ s : State,
    (isMessage s.cmdData = true → s.cfg.crc16MaxLength < be16 s.cmdData 1 →
      exec .frmEnc s = .next { s with answers := ⟨s.portCls, s.portAgent, .notSupported, []⟩ :: s.answers }) ∧
    (isMessage s.cmdData = true → be16 s.cmdData 1 ≤ s.cfg.crc16MaxLength → s.frameSize - 2 < be16 s.cmdData 1 →
      exec .frmEnc s = .next { s with answers := ⟨s.portCls, s.portAgent, .frameTooLarge, []⟩ :: s.answers }) ∧
    (s.cmdData.length < 4 ∨ be16 s.cmdData 1 ≠ s.cmdData.length → exec .frmEnc s = .refused .malformedMessage)

/-- R166 and R168: `FRM.VAL` compares the CRC of the bytes before the trailer with the trailer, then looks at the length
field; it changes nothing but the answer; an operand of another size is refused. -/
def Obligations.FrmValChecks : Prop :=
  ∀ s : State,
    (s.cmdData.length = s.frameSize →
      (receivedCrc s.cfg s.frameSize s.cmdData ≠ (crc16 s.cfg (s.cmdData.take (s.frameSize - 2))).toNat →
        exec .frmVal s = .next { s with answers := ⟨s.portCls, s.portAgent, .crcMismatch, []⟩ :: s.answers }) ∧
      (receivedCrc s.cfg s.frameSize s.cmdData = (crc16 s.cfg (s.cmdData.take (s.frameSize - 2))).toNat →
        (be16 s.cmdData 1 < 4 ∨ s.frameSize - 2 < be16 s.cmdData 1 →
          exec .frmVal s = .next { s with answers := ⟨s.portCls, s.portAgent, .lengthInvalid, []⟩ :: s.answers }) ∧
        (4 ≤ be16 s.cmdData 1 → be16 s.cmdData 1 ≤ s.frameSize - 2 →
          exec .frmVal s = .next { s with answers := ⟨s.portCls, s.portAgent, .ok, []⟩ :: s.answers }))) ∧
    (s.cmdData.length ≠ s.frameSize → exec .frmVal s = .refused .operandSize)

/-- R170: `FRM.DEC` answers the first `L` bytes of the frame when `L` is in range, and `LengthInvalid` otherwise; the CRC is
not looked at; nothing changes but the answer; an operand of another size is refused. -/
def Obligations.FrmDecAnswers : Prop :=
  ∀ s : State,
    (s.cmdData.length = s.frameSize →
      (be16 s.cmdData 1 < 4 ∨ s.frameSize - 2 < be16 s.cmdData 1 →
        exec .frmDec s = .next { s with answers := ⟨s.portCls, s.portAgent, .lengthInvalid, []⟩ :: s.answers }) ∧
      (4 ≤ be16 s.cmdData 1 → be16 s.cmdData 1 ≤ s.frameSize - 2 →
        exec .frmDec s = .next { s with
          answers := ⟨s.portCls, s.portAgent, .ok, s.cmdData.take (be16 s.cmdData 1)⟩ :: s.answers })) ∧
    (s.cmdData.length ≠ s.frameSize → exec .frmDec s = .refused .operandSize)

/-- R171: for every message in the domain of R165 that fits and selects the 2-byte CRC, `FRM.ENC` answers a frame from which
`FRM.DEC` gives the message back and which `FRM.VAL` accepts, all at the same `frame_size`. -/
def Obligations.CodecRoundTrip : Prop :=
  ∀ s : State, isMessage s.cmdData = true → s.cmdData.length ≤ s.frameSize - 2 →
    s.cmdData.length ≤ s.cfg.crc16MaxLength → s.frameSize ≤ s.cfg.maximumFrameSize →
      ∃ f t, exec .frmEnc s = .next t ∧ t.answers = ⟨s.portCls, s.portAgent, .ok, f⟩ :: s.answers ∧
        t.frameSize = s.frameSize ∧
        exec .frmDec { t with cmdData := f } = .next { t with
          cmdData := f
          answers := ⟨s.portCls, s.portAgent, .ok, s.cmdData⟩ :: t.answers } ∧
        exec .frmVal { t with cmdData := f } = .next { t with
          cmdData := f
          answers := ⟨s.portCls, s.portAgent, .ok, []⟩ :: t.answers }

/-- R161: the codec's operations and the transceiver's steps neither read nor write `crc_acc`: with another value in it they
do the same and leave that value. -/
def Obligations.CodecIgnoresCrcAcc : Prop :=
  ∀ (s : State) (v : Word) (b : Bool),
    (∀ i t, i = .frmEnc ∨ i = .frmVal ∨ i = .frmDec → exec i s = .next t →
      t.crcAcc = s.crcAcc ∧
        exec i { s with crcAcc := v, crcWritten := b } = .next { t with crcAcc := v, crcWritten := b }) ∧
    ∀ e t, xcvStep s e = .ok t →
      t.crcAcc = s.crcAcc ∧
        xcvStep { s with crcAcc := v, crcWritten := b } e = .ok { t with crcAcc := v, crcWritten := b }

/-! The transceiver. -/

/-- `XCV.XCHG` is accepted (R191, R221): the sequencer is idle, the operand is a message, and the issuer is the foreground
owner, the poller that owns the link while `Connected`, or the worker in `Initiating` while no agent holds the link (R84;
neither inside a transaction of its own sequences: the model's choice, log 13). The sequencer goes to `S1_CHECK` with the operand, and everything else stands. -/
def Obligations.XchgAccepted : Prop :=
  ∀ s : State, s.xcvState = .idle → isMessage s.cmdData = true →
    ((s.portCls = .fg ∧ s.linkOwner = .fg ∧ s.fgHolder = s.portAgent) ∨
      (s.portCls = .bg ∧ s.connState = .connected ∧ s.linkOwner = .bg ∧ s.workerInSequence = false) ∨
      (s.portCls = .worker ∧ s.connState = .initiating ∧ s.linkOwner = .none ∧ s.workerInSequence = false)) →
      exec .xcvXchg s = .next { s with
        xcvState := .s1Check
        xcvOperand := s.cmdData
        xcvCaller := .port s.portCls s.portAgent }

/-- R201: step 1 fails a request whose length exceeds `MAXIMUM_FRAME_SIZE - crc_size` with `OversizedRequest`, changing
nothing else; any other request is latched, with the pending registers its directive sets, and goes to step 2. -/
def Obligations.StepOneChecksAndLatches : Prop :=
  ∀ (s : State) (e : Env), live s → s.xcvState = .s1Check →
    (s.cfg.maximumFrameSize - s.crcSize < be16 s.xcvOperand 1 →
      Runs s (.xcv e) { s with xcvState := .fail, xcvErr := .oversizedRequest }) ∧
    (be16 s.xcvOperand 1 ≤ s.cfg.maximumFrameSize - s.crcSize → s.xcvOperand.length ≤ s.cfg.maximumFrameSize - 2 →
      ∃ t, Runs s (.xcv e) t ∧
        t = { s with
          reqMsg := t.reqMsg
          reqLen := s.xcvOperand.length
          vars := latchDirective s s.xcvOperand
          xcvState := .s2Send } ∧
        ∀ a, t.byte .req a = if a < s.xcvOperand.length then s.xcvOperand[a]? else s.byte .req a)

/-- R252, R253, R258, R260: which pending register a request sets, and to what; the other loop variables stand; and a
well-formed `Config` lets a request set at most one. A request below 7 bytes has no triplet and sets none (log 40). That a
descriptor update is latched with no visible descriptor too, as R260 says, where R39 accepts no directive request, is log 11. -/
def Obligations.LatchMatchesRequest : Prop :=
  ∀ (s : State) (m : List Byte),
    (∀ k, (latchDirective s m).pendingSpeedKhz = some k ↔
      7 ≤ m.length ∧ m.length = s.cfg.lSpeedReq ∧ triplet m = s.cfg.tSpeed ∧ be32 m s.cfg.valueOffset = k ∧
        ∃ d, s.visible = some d ∧ s.cfg.speedMinKhz ≤ k ∧ k ≤ d.maxSclkSpeed) ∧
    (∀ n, (latchDirective s m).pendingFrameSize = some n ↔
      7 ≤ m.length ∧ m.length = s.cfg.lFsizeReq ∧ triplet m = s.cfg.tFsize ∧ be32 m s.cfg.valueOffset = n ∧
        ∃ d, s.visible = some d ∧ s.cfg.frameSizeMin ≤ n ∧ n ≤ d.maxFrameSize ∧ n ≤ s.cfg.maximumFrameSize) ∧
    ((latchDirective s m).pendingDescUpdate = true ↔
      7 ≤ m.length ∧ m.length = s.cfg.lDescReq ∧ triplet m = s.cfg.tDesc) ∧
    (latchDirective s m = { s.vars with
      pendingSpeedKhz := (latchDirective s m).pendingSpeedKhz
      pendingFrameSize := (latchDirective s m).pendingFrameSize
      pendingDescUpdate := (latchDirective s m).pendingDescUpdate }) ∧
    (s.cfg.wf = true →
      ¬ ((latchDirective s m).pendingSpeedKhz.isSome = true ∧ (latchDirective s m).pendingFrameSize.isSome = true) ∧
      ¬ ((latchDirective s m).pendingSpeedKhz.isSome = true ∧ (latchDirective s m).pendingDescUpdate = true) ∧
      ¬ ((latchDirective s m).pendingFrameSize.isSome = true ∧ (latchDirective s m).pendingDescUpdate = true))

/-- R202 to R205: step 2 encodes the latched request into `tx_buf`, clears the ready latch, exchanges the frame for bytes that
go to `rx_scratch`, and initialises the loop variables; an encode error or a Transport fault fails the transaction. What a
buffer holds after a fault is left open (R74); the received bytes are cut or completed to `frame_size` bytes (log 22). -/
def Obligations.StepTwoSends : Prop :=
  ∀ (s : State) (e : Env) (m : List Byte), live s → s.xcvState = .s2Send → s.reqMsg.read 0 s.reqLen = some m →
    s.reqLen ≤ s.cfg.maximumFrameSize - 2 → s.frameSize ≤ s.cfg.maximumFrameSize → isMessage m = true →
      (∀ st, encodeFrame s.cfg s.frameSize m = .error st → Runs s (.xcv e) { s with xcvState := .fail, xcvErr := st }) ∧
      ∀ f, encodeFrame s.cfg s.frameSize m = .ok f →
        ∃ t, Runs s (.xcv e) t ∧
          (∀ a, t.byte .tx a = if a < s.frameSize then f[a]? else s.byte .tx a) ∧
          (e.transportFault = false → ∀ a,
            t.byte .rxScratch a = if a < s.frameSize then (fit s.frameSize e.rx)[a]? else s.byte .rxScratch a) ∧
          (e.transportFault = false → t = { s with
            txBuf := t.txBuf
            crcSize := 2
            readyLatch := false
            sent := f :: s.sent
            rxScratch := t.rxScratch
            vars := { s.vars with
              timeoutMs := s.cfg.tReadyDefaultMs
              wait := true
              retxPass := false
              retxUsed := false
              deferredFail := false }
            xcvState := .s3aWait }) ∧
          (e.transportFault = true → t = { s with
            txBuf := t.txBuf
            crcSize := 2
            readyLatch := false
            sent := f :: s.sent
            rxScratch := t.rxScratch
            xcvState := .fail
            xcvErr := .transportFault })

/-- R206 and R208 with R431 and R481: the waits of steps 3a and 3b. A set latch is consumed and goes on, whatever the
environment has in store, an interruption included (the model's reading, log 24). On a clear latch step 3a fails on a timeout
or an interruption and goes on when the edge arrives within `timeout_ms`, which a wait of 0 ms never sees; that such a wait may
be interrupted is R431, where R264 names the timeout alone (the model's choice, log 24). The brief wait goes on silently unless
it is interrupted. And R421: a ready edge of the board sets the latch, in any state, and changes nothing
else. -/
def Obligations.ReadyWaitsDecide : Prop :=
  ∀ (s : State) (e : Env), live s →
    Runs s .readyEdge { s with readyLatch := true } ∧
    (s.xcvState = .s3aWait →
      (s.readyLatch = true → Runs s (.xcv e) { s with readyLatch := false, xcvState := .s3bPoll }) ∧
      (s.readyLatch = false →
        (e.ready = .ready → s.vars.timeoutMs ≠ 0 → Runs s (.xcv e) { s with xcvState := .s3bPoll }) ∧
        (e.ready = .ready → s.vars.timeoutMs = 0 → Runs s (.xcv e) { s with xcvState := .fail, xcvErr := .timeout }) ∧
        (∀ d, e.ready = .edgeAfter d → s.vars.timeoutMs ≠ 0 → d ≤ s.vars.timeoutMs →
          Runs s (.xcv e) { s with xcvState := .s3bPoll }) ∧
        (∀ d, e.ready = .edgeAfter d → s.vars.timeoutMs = 0 ∨ s.vars.timeoutMs < d →
          Runs s (.xcv e) { s with xcvState := .fail, xcvErr := .timeout }) ∧
        (e.ready = .timeout → Runs s (.xcv e) { s with xcvState := .fail, xcvErr := .timeout }) ∧
        (e.ready = .interrupted → Runs s (.xcv e) { s with xcvState := .fail, xcvErr := .interrupted }))) ∧
    (s.xcvState = .s3bSidewait →
      (s.readyLatch = true → Runs s (.xcv e) { s with readyLatch := false, xcvState := .s3bSide }) ∧
      (s.readyLatch = false →
        (e.ready ≠ .interrupted → Runs s (.xcv e) { s with xcvState := .s3bSide }) ∧
        (e.ready = .interrupted → Runs s (.xcv e) { s with xcvState := .fail, xcvErr := .interrupted })))

/-- R207 and R210: a pass that is not a retransmit pass sends the poll frame and receives into `rx_primary`, the ready latch
untouched; a retransmit pass takes `rx_retx` or `rx_side` into `rx_primary` instead, and sends nothing. What the buffer holds
after a fault is left open (R74, log 22). A poll message that does not encode fails the transaction with the encode's error,
which R207 has not (the model's choice, log 41). -/
def Obligations.PollOrReuse : Prop :=
  ∀ (s : State) (e : Env) (f : List Byte), live s → s.xcvState = .s3bPoll → s.frameSize ≤ s.cfg.maximumFrameSize →
    (s.vars.retxPass = false → encodeFrame s.cfg s.frameSize s.cfg.pollMsg = .ok f →
      ∃ t, Runs s (.xcv e) t ∧
        (∀ a, t.byte .tx a = if a < s.frameSize then f[a]? else s.byte .tx a) ∧
        (e.transportFault = false → ∀ a,
          t.byte .rxPrimary a = if a < s.frameSize then (fit s.frameSize e.rx)[a]? else s.byte .rxPrimary a) ∧
        (e.transportFault = false → t = { s with
          txBuf := t.txBuf
          crcSize := 2
          sent := f :: s.sent
          rxPrimary := t.rxPrimary
          xcvState := .s3bSidewait }) ∧
        (e.transportFault = true → t = { s with
          txBuf := t.txBuf
          crcSize := 2
          sent := f :: s.sent
          rxPrimary := t.rxPrimary
          xcvState := .fail
          xcvErr := .transportFault })) ∧
    (∀ st, s.vars.retxPass = false → encodeFrame s.cfg s.frameSize s.cfg.pollMsg = .error st →
      Runs s (.xcv e) { s with xcvState := .fail, xcvErr := st }) ∧
    (s.vars.retxPass = true →
      (s.cfg.retxSource = .newExchange → s.rxRetx.read 0 s.frameSize = some f →
        ∃ t, Runs s (.xcv e) t ∧
          t = { s with
            rxPrimary := t.rxPrimary
            vars := { s.vars with retxPass := false }
            xcvState := .s3cValidate } ∧
          ∀ a, t.byte .rxPrimary a = if a < s.frameSize then f[a]? else s.byte .rxPrimary a) ∧
      (s.cfg.retxSource = .sideBuffer → s.rxSide.read 0 s.frameSize = some f →
        ∃ t, Runs s (.xcv e) t ∧
          t = { s with
            rxPrimary := t.rxPrimary
            vars := { s.vars with retxPass := false }
            xcvState := .s3cValidate } ∧
          ∀ a, t.byte .rxPrimary a = if a < s.frameSize then f[a]? else s.byte .rxPrimary a))

/-- R209: the side exchange sends `tx_buf` again, receives into `rx_side`, and an invalid side frame sets `deferred_fail`,
which nothing clears; a Transport fault fails the transaction, and what the buffer then holds is left open (R74, log 22). That
it sends what `tx_buf` holds, also after an `FRM.ENC` of another agent, is the model's choice (log 45). -/
def Obligations.SideExchangeDefers : Prop :=
  ∀ (s : State) (e : Env) (f : List Byte), live s → s.xcvState = .s3bSide → s.frameSize ≤ s.cfg.maximumFrameSize →
    s.txBuf.read 0 s.frameSize = some f →
      ∃ t, Runs s (.xcv e) t ∧
        (e.transportFault = false → ∀ a,
          t.byte .rxSide a = if a < s.frameSize then (fit s.frameSize e.rx)[a]? else s.byte .rxSide a) ∧
        (e.transportFault = false → t = { s with
          sent := f :: s.sent
          rxSide := t.rxSide
          vars := { s.vars with
            deferredFail := s.vars.deferredFail || !decide (validateFrame s.cfg s.frameSize (fit s.frameSize e.rx) = .ok) }
          xcvState := .s3cValidate }) ∧
        (e.transportFault = true → t = { s with
          sent := f :: s.sent
          rxSide := t.rxSide
          xcvState := .fail
          xcvErr := .transportFault })

/-- R211 and R214: an invalid primary frame, and an Acknowledgement, cost the one retransmit; without it left they fail
`CorruptResponse` and `ProtocolError`; a deferred failure is fatal whatever the primary frame holds. -/
def Obligations.ValidateThenAck : Prop :=
  ∀ (s : State) (e : Env), live s →
    (∀ f, s.xcvState = .s3cValidate → s.frameSize ≤ s.cfg.maximumFrameSize →
      s.rxPrimary.read 0 s.frameSize = some f →
        (validateFrame s.cfg s.frameSize f = .ok → Runs s (.xcv e) { s with xcvState := .s3dAck }) ∧
        (validateFrame s.cfg s.frameSize f ≠ .ok → s.vars.retxUsed = false → Runs s (.xcv e) { s with xcvState := .retx }) ∧
        (validateFrame s.cfg s.frameSize f ≠ .ok → s.vars.retxUsed = true →
          Runs s (.xcv e) { s with xcvState := .fail, xcvErr := .corruptResponse })) ∧
    (s.xcvState = .s3dAck →
      (s.vars.deferredFail = true → Runs s (.xcv e) { s with xcvState := .fail, xcvErr := .protocolError }) ∧
      ∀ b, s.vars.deferredFail = false → s.byte .rxPrimary 0 = some b →
        (b = s.cfg.mtAck → s.vars.retxUsed = false → Runs s (.xcv e) { s with xcvState := .retx }) ∧
        (b = s.cfg.mtAck → s.vars.retxUsed = true →
          Runs s (.xcv e) { s with xcvState := .fail, xcvErr := .protocolError }) ∧
        (b ≠ s.cfg.mtAck → Runs s (.xcv e) { s with xcvState := .s3eType }))

/-- R215 to R217, R264 to R267: a type other than Response fails; a transaction error of the core class fails with the variant
of its sub-code, one for each of the six, and one with another sub-code goes on; a Wait directive sets the next timeout to its
microseconds div 1000 and loops; any other response goes to step 3g. A response below 7 bytes carries no directive (log 40). -/
def Obligations.TypeThenWait : Prop :=
  ∀ (s : State) (e : Env) (m : List Byte), live s → primaryHolds s m →
    (s.xcvState = .s3eType →
      (byteAt m 0 ≠ s.cfg.mtResponse →
        Runs s (.xcv e) { s with xcvState := .fail, xcvErr := .unexpectedMessageType }) ∧
      (byteAt m 0 = s.cfg.mtResponse →
        (∀ code sub, m.length = s.cfg.lError → byteAt m 4 = s.cfg.classCore → byteAt m 5 = s.cfg.cmdError →
          byteAt m 6 = code →
          (code, sub) ∈ [(s.cfg.subMsgtype, TxnSub.messageTypeInvalid), (s.cfg.subClassid, TxnSub.classIdInvalid),
            (s.cfg.subFramecrc, TxnSub.frameCrc), (s.cfg.subClass, TxnSub.classInvalid),
            (s.cfg.subDatalen, TxnSub.dataLengthInvalid), (s.cfg.subMode, TxnSub.wrongMode)] →
            Runs s (.xcv e) { s with xcvState := .fail, xcvErr := .transactionError sub }) ∧
        (m.length ≠ s.cfg.lError ∨ byteAt m 4 ≠ s.cfg.classCore ∨ byteAt m 5 ≠ s.cfg.cmdError ∨
            byteAt m 6 ∉ [s.cfg.subMsgtype, s.cfg.subClassid, s.cfg.subFramecrc, s.cfg.subClass, s.cfg.subDatalen,
              s.cfg.subMode] →
          Runs s (.xcv e) { s with xcvState := .s3fWaitdir }))) ∧
    (s.xcvState = .s3fWaitdir →
      (7 ≤ m.length → m.length = s.cfg.lWait → triplet m = s.cfg.tWait →
        Runs s (.xcv e) { s with
          vars := { s.vars with timeoutMs := be32 m s.cfg.valueOffset / 1000, wait := true }
          xcvState := .s3aWait }) ∧
      (m.length < 7 ∨ m.length ≠ s.cfg.lWait ∨ triplet m ≠ s.cfg.tWait →
        Runs s (.xcv e) { s with xcvState := .s3gApply }))

/-- R256, R259, R263: at step 3g a zero-value confirmation applies the pending clock (in Hz) or the pending frame size, and any
other response applies nothing, one below 7 bytes included (log 40); without a confirmed descriptor update the transaction is
done. -/
def Obligations.ConfirmationsApply : Prop :=
  ∀ (s : State) (e : Env) (m : List Byte), live s → primaryHolds s m → s.xcvState = .s3gApply →
    (¬ (m.length = s.cfg.lDescCfm ∧ triplet m = s.cfg.tDesc ∧ s.vars.pendingDescUpdate = true)) →
      ∃ t, Runs s (.xcv e) t ∧
        t = { s with
          speedSclk := t.speedSclk
          frameSize := t.frameSize
          vars := { s.vars with wait := false }
          xcvState := .done } ∧
        (∀ k, 7 ≤ m.length → m.length = s.cfg.lSpeedCfm → triplet m = s.cfg.tSpeed → be32 m s.cfg.valueOffset = 0 →
          s.vars.pendingSpeedKhz = some k → t.speedSclk = k * 1000) ∧
        (m.length < 7 ∨ m.length ≠ s.cfg.lSpeedCfm ∨ triplet m ≠ s.cfg.tSpeed ∨ be32 m s.cfg.valueOffset ≠ 0 ∨
            s.vars.pendingSpeedKhz = none →
          t.speedSclk = s.speedSclk) ∧
        (∀ n, 7 ≤ m.length → m.length = s.cfg.lFsizeCfm → triplet m = s.cfg.tFsize → be32 m s.cfg.valueOffset = 0 →
          s.vars.pendingFrameSize = some n → t.frameSize = n) ∧
        (m.length < 7 ∨ m.length ≠ s.cfg.lFsizeCfm ∨ triplet m ≠ s.cfg.tFsize ∨ be32 m s.cfg.valueOffset ≠ 0 ∨
            s.vars.pendingFrameSize = none →
          t.frameSize = s.frameSize)

/-- R261, R262, R360: a confirmed descriptor update of an outer transaction starts the fetch with `force` 1 and the visible
descriptor's `rid`: the current descriptor becomes the previous one and is invalid, the transaction stands at `S3G_REFRESH`
with its issuer, its variables and its response kept aside. The fetch stands before its first field: every field still to get,
no chunk and no byte of one got, none asked for, in the scratch record the current stability alone. With no visible descriptor
all of that holds too, and only the `rid` it will publish is a free value, of which nothing is said (log 11). -/
def Obligations.RefreshBegins : Prop :=
  ∀ (s : State) (e : Env) (m : List Byte), live s → primaryHolds s m → s.xcvState = .s3gApply → s.xcvOuter = none →
    m.length = s.cfg.lDescCfm → triplet m = s.cfg.tDesc → s.vars.pendingDescUpdate = true →
      ∃ t, Runs s (.xcv e) t ∧ t.xcvState = .s3gRefresh ∧
        t.xcvOuter = some ⟨s.xcvCaller, s.vars, s.rxPrimary⟩ ∧
        t.descCur = { s.descCur with valid := false } ∧
        t.descPrev = (if s.descCur.valid then s.descCur else s.descPrev) ∧
        (∃ st, t.fetch = some st ∧ st.force = true ∧ st.prevRid = s.descCur.rid ∧ st.todo = fieldOrder ∧ st.chunk = 0 ∧
          st.total = 0 ∧ st.awaiting = false ∧ st.scratch = { fwStability := s.descCur.fwStability } ∧
          ∀ d, s.visible = some d → st.preserveRid = d.rid) ∧ t.xcvReturn = none ∧
        t.linkOwner = s.linkOwner ∧ t.transmissionErrors = s.transmissionErrors ∧ t.answers = s.answers

/-- R262, R360 to R368: a refresh at `S3G_REFRESH`. It issues the request of the current field or chunk as a nested
transaction, waits for the result, and takes what the result gives (`fieldTaken`); a result that fails the field
(`fieldFails`) counts one descriptor failure, publishes nothing, and fails the outer transaction `DescriptorRefreshFailed`; the
fetch that has every field publishes the scratch record in one step, under the preserved `rid`, or where that is 0 under a drawn
one that is neither 0 nor the previous one, and the outer transaction is done with its own variables and response back. How
`fieldTaken` and `fieldFails` read a chunk's length, a chunk answer to a fixed field and a serial code of another size is the
model's reading (log 18); what `desc_req` and `desc_parse` answer is free within R361 (log 17), the drawn `rid` the
environment's (log 23). -/
def Obligations.RefreshEnds : Prop :=
  ∀ (s : State) (e : Env) (o : OuterTxn) (st : FetchState), live s → s.xcvState = .s3gRefresh → s.xcvOuter = some o →
    s.fetch = some st →
      (st.todo = [] → st.preserveRid ≠ 0 →
        Runs s (.xcv e) { s with
          descCur := { st.scratch with rid := st.preserveRid, valid := true }
          fetch := none
          xcvOuter := none
          xcvCaller := o.caller
          vars := { o.vars with wait := false }
          rxPrimary := o.rxPrimary
          xcvState := .done }) ∧
      (st.todo = [] → st.preserveRid = 0 → ∃ rid : BitVec 32, rid ≠ 0 ∧ rid ≠ st.prevRid ∧
        (e.rid ≠ 0 → e.rid ≠ st.prevRid → rid = e.rid) ∧
        Runs s (.xcv e) { s with
          descCur := { st.scratch with rid := rid, valid := true }
          fetch := none
          xcvOuter := none
          xcvCaller := o.caller
          vars := { o.vars with wait := false }
          rxPrimary := o.rxPrimary
          xcvState := .done }) ∧
      ∀ f rest, st.todo = f :: rest →
        (st.awaiting = false → Runs s (.xcv e) { s with
          xcvState := .s1Check
          xcvOperand := descReq s.cfg f st.chunk
          xcvCaller := .fetcher
          fetch := some { st with awaiting := true } }) ∧
        (st.awaiting = true → s.xcvReturn = none → Runs s (.xcv e) s) ∧
        ∀ r, st.awaiting = true → s.xcvReturn = some r →
          (∀ st', fieldTaken s.cfg st f rest r st' → Runs s (.xcv e) { s with xcvReturn := none, fetch := some st' }) ∧
          (fieldFails s.cfg st f r → Runs s (.xcv e) { s with
            xcvReturn := none
            descriptorFailed := (s.descriptorFailed + 1) % 2 ^ s.cfg.ctrWidth
            fetch := none
            xcvOuter := none
            xcvCaller := o.caller
            vars := o.vars
            rxPrimary := o.rxPrimary
            xcvState := .fail
            xcvErr := .descriptorRefreshFailed })

/-- R213: the one retransmit: `retx_used` and `retx_pass` set, `wait` and `timeout_ms` kept; with `RETX_SOURCE = NewExchange`
`tx_buf` is exchanged for bytes that go to `rx_retx` (what it holds after a fault is left open, R74, log 22); control goes to
step 3a or 3b by `RETX_REWAIT`. That it sends what `tx_buf` holds, also after an `FRM.ENC` of another agent, is the model's
choice (log 45). -/
def Obligations.RetransmitOnce : Prop :=
  ∀ (s : State) (e : Env), live s → s.xcvState = .retx →
    (s.cfg.retxSource = .sideBuffer →
      Runs s (.xcv e) { s with
        vars := { s.vars with retxUsed := true, retxPass := true }
        xcvState := if s.cfg.retxRewait then .s3aWait else .s3bPoll }) ∧
    ∀ f, s.cfg.retxSource = .newExchange → s.frameSize ≤ s.cfg.maximumFrameSize →
      s.txBuf.read 0 s.frameSize = some f →
        ∃ t, Runs s (.xcv e) t ∧
          (e.transportFault = false → ∀ a,
            t.byte .rxRetx a = if a < s.frameSize then (fit s.frameSize e.rx)[a]? else s.byte .rxRetx a) ∧
          (e.transportFault = false → t = { s with
            vars := { s.vars with retxUsed := true, retxPass := true }
            sent := f :: s.sent
            rxRetx := t.rxRetx
            xcvState := if s.cfg.retxRewait then .s3aWait else .s3bPoll }) ∧
          (e.transportFault = true → t = { s with
            vars := { s.vars with retxUsed := true, retxPass := true }
            sent := f :: s.sent
            rxRetx := t.rxRetx
            xcvState := .fail
            xcvErr := .transportFault })

/-- R219: the failure exit adds 1 to `transmission_errors` modulo `2^CTR_WIDTH` and hands the error to the issuer and to nobody
else, an agent at the port or the sequencer that issued the transaction; the sequencer returns to `IDLE`, or to `S3G_REFRESH`
where the transaction was nested (R262); the link, the link parameters and every buffer stand. -/
def Obligations.FailureExit : Prop :=
  ∀ (s : State) (e : Env), live s → s.xcvState = .fail →
    (∀ c a, s.xcvCaller = .port c a →
      Runs s (.xcv e) { s with
        transmissionErrors := (s.transmissionErrors + 1) % 2 ^ s.cfg.ctrWidth
        xcvState := if s.xcvOuter = none then .idle else .s3gRefresh
        answers := ⟨c, a, s.xcvErr, []⟩ :: s.answers }) ∧
    (s.xcvCaller = .poller ∨ s.xcvCaller = .probe ∨ s.xcvCaller = .fetcher →
      Runs s (.xcv e) { s with
        transmissionErrors := (s.transmissionErrors + 1) % 2 ^ s.cfg.ctrWidth
        xcvState := if s.xcvOuter = none then .idle else .s3gRefresh
        xcvReturn := some ⟨s.xcvErr, []⟩ })

/-- R220: the successful end hands the message of the primary frame, which `resp_msg` then holds, to the issuer: an agent at
the port, or the sequencer that issued the transaction; the sequencer is `IDLE`, or at `S3G_REFRESH` where the transaction was
nested (R262); no counter changes, and everything else stands. -/
def Obligations.SuccessReturnsResponse : Prop :=
  ∀ (s : State) (e : Env) (m : List Byte), live s → s.xcvState = .done → primaryHolds s m →
    (∀ c a, s.xcvCaller = .port c a →
      ∃ t, Runs s (.xcv e) t ∧
        t = { s with
          respMsg := t.respMsg
          respLen := m.length
          xcvState := if s.xcvOuter = none then .idle else .s3gRefresh
          answers := ⟨c, a, .ok, m⟩ :: s.answers } ∧
        ∀ i, t.byte .resp i = if i < m.length then m[i]? else s.byte .resp i) ∧
    (s.xcvCaller = .poller ∨ s.xcvCaller = .probe ∨ s.xcvCaller = .fetcher →
      ∃ t, Runs s (.xcv e) t ∧
        t = { s with
          respMsg := t.respMsg
          respLen := m.length
          xcvState := if s.xcvOuter = none then .idle else .s3gRefresh
          xcvReturn := some ⟨.ok, m⟩ } ∧
        ∀ i, t.byte .resp i = if i < m.length then m[i]? else s.byte .resp i)

/-- R224 (b), a whole transaction: a Transport whose frames, whatever they are, all fail the check, with every ready wait
answered, fails an accepted request with `CorruptResponse` after exactly one retransmit and counts one transmission error,
under either `RETX_SOURCE` and `RETX_REWAIT`. Each step has an environment of its own. -/
def Obligations.AlwaysCorruptFails : Prop :=
  ∀ (s : State) (es : List Env) (c : Cls) (a : Nat), live s → SlotInv s → s.xcvState = .s1Check → s.xcvOuter = none →
    s.xcvCaller = .port c a → isMessage s.xcvOperand = true → s.xcvOperand.length ≤ s.frameSize - 2 →
    s.xcvOperand.length ≤ s.cfg.crc16MaxLength → s.cfg.pollMsg.length ≤ s.cfg.crc16MaxLength →
    s.cfg.tReadyDefaultMs ≠ 0 → es.length = 12 →
    (∀ e ∈ es, e.ready = .ready ∧ e.transportFault = false ∧
      validateFrame s.cfg s.frameSize (fit s.frameSize e.rx) ≠ .ok) →
      ∃ t, runXcv es s = .ok t ∧ t.xcvState = .idle ∧
        t.answers = ⟨c, a, .corruptResponse, []⟩ :: s.answers ∧
        t.transmissionErrors = (s.transmissionErrors + 1) % 2 ^ s.cfg.ctrWidth ∧
        t.sent.length = s.sent.length + 3 + (if s.cfg.retxSource = .newExchange then 1 else 0) ∧
        t.linkOwner = s.linkOwner ∧ t.frameSize = s.frameSize ∧ t.speedSclk = s.speedSclk

/-- R224 (a), a whole transaction: the poll answered by a frame that fails the check, the side exchange and the retransmit each
by a valid Response of its own that is neither a transaction error nor a Wait directive, the first exchange by anything, and
every ready wait answered. The transaction succeeds after exactly one retransmit, returns the message `r` of the retransmitted
frame (of the side frame under `RETX_SOURCE = SideBuffer`) and counts no transmission error, under either `RETX_SOURCE` and
`RETX_REWAIT`; a response that confirms what the request asked for changes the clock or the frame size. A response that
confirms a descriptor update, of a request for one, starts the refresh instead, with no error counted and no result yet
(R261). -/
def Obligations.OneCorruptSucceeds : Prop :=
  ∀ (s : State) (es : List Env) (c : Cls) (a : Nat) (r : List Byte), live s → SlotInv s → s.xcvState = .s1Check →
    s.xcvOuter = none → s.xcvCaller = .port c a → isMessage s.xcvOperand = true →
    s.xcvOperand.length ≤ s.frameSize - 2 → s.xcvOperand.length ≤ s.cfg.crc16MaxLength →
    s.cfg.pollMsg.length ≤ s.cfg.crc16MaxLength → s.cfg.tReadyDefaultMs ≠ 0 →
    es.length = 16 → (∀ e ∈ es, e.ready = .ready ∧ e.transportFault = false) →
    (∀ e, es[3]? = some e → validateFrame s.cfg s.frameSize (fit s.frameSize e.rx) ≠ .ok) →
    (∀ e, es[5]? = some e → ∃ m, answersWith s e m) →
    (∀ e, es[if s.cfg.retxSource = .newExchange then 7 else 5]? = some e → answersWith s e r) →
      (¬ (matchesShape s.cfg.tDesc s.cfg.lDescReq s.xcvOperand = true ∧ matchesShape s.cfg.tDesc s.cfg.lDescCfm r = true) →
        ∃ t, runXcv es s = .ok t ∧ t.xcvState = .idle ∧
          t.answers = ⟨c, a, .ok, r⟩ :: s.answers ∧ t.transmissionErrors = s.transmissionErrors ∧
          t.sent.length = s.sent.length + 3 + (if s.cfg.retxSource = .newExchange then 1 else 0) ∧
          t.linkOwner = s.linkOwner ∧
          t.speedSclk = (if matchesShape s.cfg.tSpeed s.cfg.lSpeedCfm r = true ∧ be32 r s.cfg.valueOffset = 0
            then ((latchDirective s s.xcvOperand).pendingSpeedKhz.map (· * 1000)).getD s.speedSclk else s.speedSclk) ∧
          t.frameSize = if matchesShape s.cfg.tFsize s.cfg.lFsizeCfm r = true ∧ be32 r s.cfg.valueOffset = 0
            then (latchDirective s s.xcvOperand).pendingFrameSize.getD s.frameSize else s.frameSize) ∧
      (matchesShape s.cfg.tDesc s.cfg.lDescReq s.xcvOperand = true → matchesShape s.cfg.tDesc s.cfg.lDescCfm r = true →
        ∃ n t, n ≤ 16 ∧ runXcv (es.take n) s = .ok t ∧ t.xcvState = .s3gRefresh ∧
          t.answers = s.answers ∧ t.transmissionErrors = s.transmissionErrors ∧
          t.sent.length = s.sent.length + 3 + (if s.cfg.retxSource = .newExchange then 1 else 0) ∧
          t.linkOwner = s.linkOwner ∧ ∃ o ∈ t.xcvOuter, o.caller = .port c a)

/-- R412: over every step, `transmission_errors` stands, or goes up by exactly 1 at the failure exit of a transaction, or at an
`XCV.XCHG` of the poller that fails at the port in `Failed` (that it fails so is log 46), or is cleared by `STAT.CLR` (a
command, or the worker's own); and every step of the transceiver at the failure exit adds the 1. -/
def Obligations.TransmissionErrorsCount : Prop :=
  (∀ s t : State, step s = .next t →
    t.transmissionErrors = s.transmissionErrors ∨
      (s.xcvState = .fail ∧ (∃ e rest, s.inputs = .xcv e :: rest) ∧
        t.transmissionErrors = (s.transmissionErrors + 1) % 2 ^ s.cfg.ctrWidth) ∨
      (s.connState = .failed ∧ (∃ c rest, s.inputs = .command c :: rest ∧ c.cls = .bg ∧ decode c.word = .ok .xcvXchg) ∧
        t.transmissionErrors = (s.transmissionErrors + 1) % 2 ^ s.cfg.ctrWidth) ∨
      (t.transmissionErrors = 0 ∧
        ((∃ c rest, s.inputs = .command c :: rest ∧ decode c.word = .ok .statClr) ∨
          ∃ e rest, s.inputs = .worker e :: rest))) ∧
    ∀ (s t : State) (e : Env) (rest : List Input), s.xcvState = .fail → s.inputs = .xcv e :: rest → step s = .next t →
      t.transmissionErrors = (s.transmissionErrors + 1) % 2 ^ s.cfg.ctrWidth

/-! The arbiter. -/

/-- R284 and R286: `ARB.ACQ.FG` of a foreground requester that neither owns nor waits: `DeviceGone` outside `Connected`; a
free link is granted and the intent counted in the same step; otherwise a non-blocking requester meets `Busy` and leaves no
trace, and a blocking one is counted and waits. While `Connected` the device is registered: outside that no requester exists
(R433, log 43). -/
def Obligations.ArbAcqFgAdmits : Prop :=
  ∀ (s : State) (nb : Bool), s.portCls = .fg → ¬ (s.linkOwner = .fg ∧ s.fgHolder = s.portAgent) →
    (∀ w ∈ s.fgWaiters, w.agent ≠ s.portAgent) →
      (s.connState ≠ .connected → exec (.arbAcqFg nb) s = .next { s with
        answers := ⟨.fg, s.portAgent, .deviceGone, []⟩ :: s.answers }) ∧
      (s.connState = .connected → s.registered = true → s.linkOwner = .none → s.fgIntent = 0 → exec (.arbAcqFg nb) s = .next { s with
        linkOwner := .fg
        fgHolder := s.portAgent
        fgIntent := s.fgIntent + 1
        answers := ⟨.fg, s.portAgent, .ok, []⟩ :: s.answers }) ∧
      (s.connState = .connected → s.registered = true → (s.linkOwner ≠ .none ∨ s.fgIntent ≠ 0) → nb = true →
        exec (.arbAcqFg nb) s = .next { s with answers := ⟨.fg, s.portAgent, .busy, []⟩ :: s.answers }) ∧
      (s.connState = .connected → s.registered = true → (s.linkOwner ≠ .none ∨ s.fgIntent ≠ 0) → nb = false →
        exec (.arbAcqFg nb) s = .next { s with
          fgIntent := s.fgIntent + 1
          fgWaiters := s.fgWaiters ++ [⟨s.portAgent, false⟩] })

/-- R287: `ARB.REL.FG` of the owner, with the sequencer idle, frees the link and withdraws the owner's intent. -/
def Obligations.ArbRelFgReleases : Prop :=
  ∀ s : State, s.portCls = .fg → s.linkOwner = .fg → s.fgHolder = s.portAgent → s.xcvState = .idle →
    exec .arbRelFg s = .next { s with
      linkOwner := .none
      fgIntent := s.fgIntent - 1
      answers := ⟨.fg, s.portAgent, .ok, []⟩ :: s.answers }

/-- R288 and R289: the poller takes a link that has no owner and no foreground intent, and meets `Busy` otherwise, with
nothing changed; with the sequencer idle it releases a link it owns; both while `Connected`. -/
def Obligations.PollerAcquiresAndReleases : Prop :=
  ∀ s : State, s.portCls = .bg → s.connState = .connected →
    (s.linkOwner = .none → s.fgIntent = 0 → exec .arbAcqBg s = .next { s with
      linkOwner := .bg
      answers := ⟨.bg, s.portAgent, .ok, []⟩ :: s.answers }) ∧
    (s.linkOwner ≠ .none ∨ s.fgIntent ≠ 0 → exec .arbAcqBg s = .next { s with
      answers := ⟨.bg, s.portAgent, .busy, []⟩ :: s.answers }) ∧
    (s.linkOwner = .bg → s.xcvState = .idle → exec .arbRelBg s = .next { s with
      linkOwner := .none
      answers := ⟨.bg, s.portAgent, .ok, []⟩ :: s.answers })

/-- R285: a waiting requester leaves by the grant while the link has no owner (its intent stays counted), by the bounded wait
(`Busy`), by interruption, or with `DeviceGone` once the slot is not `Connected`, at its turn and at the end of its bounded wait
alike, since `DeviceGone` comes before `Busy` (R414 (d)); each of the last three withdraws its intent; while the link has an
owner its turn changes nothing. That `DeviceGone` comes before a grant, that a requester whose connection has ended leaves with
it also in a later connection, and that an interruption still ends its wait with `Interrupted`, is the model's reading (log
15). -/
def Obligations.WaiterLeaves : Prop :=
  ∀ (s : State) (a : Nat), live s →
    ((⟨a, false⟩ : FgWaiter) ∈ s.fgWaiters → (∀ w ∈ s.fgWaiters, w.agent = a → w.gone = false) →
      (s.connState = .connected → s.linkOwner = .none → Runs s (.fgTurn a) { s with
        linkOwner := .fg
        fgHolder := a
        fgWaiters := s.fgWaiters.filter fun w => decide (w.agent ≠ a)
        answers := ⟨.fg, a, .ok, []⟩ :: s.answers }) ∧
      (s.connState = .connected → s.linkOwner ≠ .none → Runs s (.fgTurn a) s) ∧
      (s.connState = .connected → Runs s (.fgTimeout a) { s with
        fgIntent := s.fgIntent - 1
        fgWaiters := s.fgWaiters.filter fun w => decide (w.agent ≠ a)
        answers := ⟨.fg, a, .busy, []⟩ :: s.answers })) ∧
    ((∃ w ∈ s.fgWaiters, w.agent = a) →
      (s.connState ≠ .connected ∨ (⟨a, true⟩ : FgWaiter) ∈ s.fgWaiters → ∀ x, x = .fgTurn a ∨ x = .fgTimeout a →
        Runs s x { s with
          fgIntent := s.fgIntent - 1
          fgWaiters := s.fgWaiters.filter fun w => decide (w.agent ≠ a)
          answers := ⟨.fg, a, .deviceGone, []⟩ :: s.answers }) ∧
      Runs s (.interrupt .fg a) { s with
        fgIntent := s.fgIntent - 1
        fgWaiters := s.fgWaiters.filter fun w => decide (w.agent ≠ a)
        answers := ⟨.fg, a, .interrupted, []⟩ :: s.answers })

/-- R283 (c) and R290, over every step: the link becomes the poller's only from no owner and while no foreground intent is
outstanding, and a link the poller owns while a transaction is in progress stays the poller's. -/
def Obligations.ForegroundPreempts : Prop :=
  ∀ s t : State, step s = .next t →
    (t.linkOwner = .bg → s.linkOwner = .bg ∨ (s.linkOwner = .none ∧ s.fgIntent = 0)) ∧
      (s.linkOwner = .bg → s.xcvState ≠ .idle → t.linkOwner = .bg)

/-- R295: a release by an agent that does not own the link, an acquire by the current owner, a release while the sequencer is
not idle, and `ARB.ACQ.BG` by another class are refused. -/
def Obligations.ArbMisuseRefused : Prop :=
  ∀ s : State,
    (¬ (s.portCls = .fg ∧ s.linkOwner = .fg ∧ s.fgHolder = s.portAgent) → ∃ r, exec .arbRelFg s = .refused r) ∧
    (s.linkOwner ≠ .bg → ∃ r, exec .arbRelBg s = .refused r) ∧
    (∀ nb, s.linkOwner = .fg → s.fgHolder = s.portAgent → ∃ r, exec (.arbAcqFg nb) s = .refused r) ∧
    (s.xcvState ≠ .idle → (∃ r, exec .arbRelFg s = .refused r) ∧ ∃ r, exec .arbRelBg s = .refused r) ∧
    (s.portCls ≠ .bg → ∃ r, exec .arbAcqBg s = .refused r)

/-- R436, R191, R433: an operation of a class that may not issue it is refused, whatever the state; so is one in a connection
state the table does not admit, a transaction of an issuer that does not hold the link, or of the worker while another agent
holds it (R84); a transaction of an admitted issuer is refused while the sequencer is not idle and when its operand is no
message. Which states admit `MBX.GONE` and `STAT.CLR` is log 21, that the worker at the port is not inside a transaction of its
own sequences log 13, that no requester and no consumer calls once the device is unregistered log 43. In `Failed` the operations
gated on `Connected` are not refused for the connection state: they answer `DeviceGone` and change nothing but the count of a
failed `XCV.XCHG` (U14 of 93_implementation_defined.md, R412; that U14 goes before the table of R436 is log 46), each within its
other preconditions: the `XCV.XCHG` by the owner, with the sequencer idle and a message, as in `Connected`. -/
def Obligations.ClassAndStateGate : Prop :=
  ∀ s : State,
    (s.portCls ≠ .fg → (∀ nb, exec (.arbAcqFg nb) s = .refused .wrongClass) ∧ exec .arbRelFg s = .refused .wrongClass) ∧
    (s.portCls ≠ .bg → exec .arbAcqBg s = .refused .wrongClass ∧ exec .arbRelBg s = .refused .wrongClass) ∧
    (s.portCls = .consumer → exec .xcvXchg s = .refused .wrongClass) ∧
    (s.portCls ≠ .consumer → ∀ nb, exec (.mbxTake nb) s = .refused .wrongClass) ∧
    (s.portCls ≠ .bg → s.portCls ≠ .worker → exec .mbxPost s = .refused .wrongClass) ∧
    (s.portCls ≠ .worker → exec .mbxClr s = .refused .wrongClass ∧ exec .mbxGone s = .refused .wrongClass ∧
      exec .lnkRst s = .refused .wrongClass ∧ exec .statClr s = .refused .wrongClass) ∧
    (s.portCls = .bg → s.connState ≠ .connected → s.connState ≠ .failed → exec .arbAcqBg s = .refused .wrongConnState ∧
      exec .arbRelBg s = .refused .wrongConnState ∧ exec .xcvXchg s = .refused .wrongConnState ∧
      (s.mbxLen ≠ -1 → exec .mbxPost s = .refused .wrongConnState)) ∧
    (s.portCls = .worker →
      (s.connState ≠ .initiating → exec .mbxClr s = .refused .wrongConnState ∧
        exec .lnkRst s = .refused .wrongConnState ∧ exec .xcvXchg s = .refused .wrongConnState) ∧
      (s.connState ≠ .connected → s.connState ≠ .failed → s.mbxLen ≠ -1 → exec .mbxPost s = .refused .wrongConnState) ∧
      (s.connState ≠ .connected → s.stop = false → exec .mbxGone s = .refused .wrongConnState) ∧
      (s.connState ≠ .initiating → ¬ (s.connState = .connected ∧ s.cfg.statResetPolicy = .everyTransition) →
        exec .statClr s = .refused .wrongConnState)) ∧
    (s.portCls = .consumer → s.mbxLen ≠ -1 →
      (s.connState ≠ .connected → s.connState ≠ .failed → ∀ nb, exec (.mbxTake nb) s = .refused .wrongConnState) ∧
      (s.connState = .connected → s.registered = false → ∀ nb, exec (.mbxTake nb) s = .refused .notRegistered)) ∧
    (s.connState = .failed →
      (s.portCls = .bg →
        exec .arbAcqBg s = .next { s with answers := ⟨.bg, s.portAgent, .deviceGone, []⟩ :: s.answers } ∧
        (s.linkOwner = .bg → s.xcvState = .idle →
          exec .arbRelBg s = .next { s with answers := ⟨.bg, s.portAgent, .deviceGone, []⟩ :: s.answers }) ∧
        (s.linkOwner = .bg → s.workerInSequence = false → s.xcvState = .idle → isMessage s.cmdData = true →
          exec .xcvXchg s = .next { s with
            transmissionErrors := (s.transmissionErrors + 1) % 2 ^ s.cfg.ctrWidth
            answers := ⟨.bg, s.portAgent, .deviceGone, []⟩ :: s.answers })) ∧
      (s.portCls = .bg ∨ s.portCls = .worker → 1 ≤ s.cmdData.length → s.cmdData.length ≤ s.cfg.maximumFrameSize - 2 →
        exec .mbxPost s = .next { s with answers := ⟨s.portCls, s.portAgent, .deviceGone, []⟩ :: s.answers }) ∧
      (s.portCls = .consumer → s.mbxLen ≠ -1 → s.portAgent ∉ s.mbxHeld →
        (∀ c, s.mbxInside = some c → c.agent ≠ s.portAgent) → ∀ nb,
          exec (.mbxTake nb) s = .next { s with answers := ⟨.consumer, s.portAgent, .deviceGone, []⟩ :: s.answers })) ∧
    (s.portCls = .fg → s.connState = .connected → s.registered = false → ¬ (s.linkOwner = .fg ∧ s.fgHolder = s.portAgent) →
      (∀ w ∈ s.fgWaiters, w.agent ≠ s.portAgent) → ∀ nb, exec (.arbAcqFg nb) s = .refused .notRegistered) ∧
    (s.portCls = .fg → ¬ (s.linkOwner = .fg ∧ s.fgHolder = s.portAgent) → exec .xcvXchg s = .refused .linkNotHeld) ∧
    (s.portCls = .bg → s.connState = .connected ∨ s.connState = .failed → s.linkOwner ≠ .bg → exec .xcvXchg s = .refused .linkNotHeld) ∧
    (s.portCls = .worker → s.connState = .initiating → s.linkOwner ≠ .none → exec .xcvXchg s = .refused .linkBusy) ∧
    ((s.portCls = .bg ∧ (s.connState = .connected ∨ s.connState = .failed) ∧ s.linkOwner = .bg) ∨
        (s.portCls = .worker ∧ s.connState = .initiating ∧ s.linkOwner = .none) →
      s.workerInSequence = true → exec .xcvXchg s = .refused .agentBlocked) ∧
    ((s.portCls = .fg ∧ s.linkOwner = .fg ∧ s.fgHolder = s.portAgent) ∨
        (s.portCls = .bg ∧ (s.connState = .connected ∨ s.connState = .failed) ∧ s.linkOwner = .bg ∧
          s.workerInSequence = false) ∨
        (s.portCls = .worker ∧ s.connState = .initiating ∧ s.linkOwner = .none ∧ s.workerInSequence = false) →
      (s.xcvState ≠ .idle → exec .xcvXchg s = .refused .sequencerBusy) ∧
      (s.xcvState = .idle → s.cmdData.length < 4 ∨ be16 s.cmdData 1 ≠ s.cmdData.length →
        exec .xcvXchg s = .refused .malformedMessage))

/-! The mailbox. -/

/-- R312, R319, R436: `MBX.CLR` of the worker in `Initiating` sets `mbx_len` to 0 when no consumer is inside `MBX.TAKE` or held
at its lock, as R312 has it, and is refused otherwise (the model's choice, log 31); `MBX.GONE` of the worker while `Connected`
or, once `stop` is set, in any connection state (the model's rendering of "leaving it, or at shutdown", log 21) sets it to -1
and wakes the consumer waiting inside, which looks next; the buffer and the lock stand. -/
def Obligations.MbxClrAndGone : Prop :=
  ∀ s : State, s.portCls = .worker →
    (s.connState = .initiating →
      (s.mbxInside = none → s.mbxHeld = [] → exec .mbxClr s = .next { s with
        mbxLen := 0
        answers := ⟨.worker, s.portAgent, .ok, []⟩ :: s.answers }) ∧
      (s.mbxInside ≠ none ∨ s.mbxHeld ≠ [] → exec .mbxClr s = .refused .mailboxInUse)) ∧
    (s.connState = .connected ∨ s.stop = true → exec .mbxGone s = .next { s with
      mbxLen := -1
      mbxInside := s.mbxInside.map fun c => { c with at_ := .look }
      answers := ⟨.worker, s.portAgent, .ok, []⟩ :: s.answers })

/-- R313 and R314: `MBX.POST` while `Connected`: an empty mailbox takes the notification from offset 0 on, counts it and wakes
the consumer waiting inside; an occupied one keeps its data, counts a failed notification and answers `MailboxFull`; a gone
one answers `DeviceGone` and changes nothing, in every connection state (R314; that it goes before the table of R436 is log
46); an operand of another size is refused. -/
def Obligations.MbxPostDelivers : Prop :=
  ∀ s : State, s.portCls = .bg ∨ s.portCls = .worker → s.connState = .connected ∨ s.mbxLen = -1 →
    (1 ≤ s.cmdData.length → s.cmdData.length ≤ s.cfg.maximumFrameSize - 2 →
      (s.mbxLen = 0 → ∃ t, exec .mbxPost s = .next t ∧
        t = { s with
          mbxBuf := t.mbxBuf
          mbxLen := s.cmdData.length
          notificationsReceived := (s.notificationsReceived + 1) % 2 ^ s.cfg.ctrWidth
          mbxInside := s.mbxInside.map fun c => { c with at_ := .look }
          answers := ⟨s.portCls, s.portAgent, .ok, []⟩ :: s.answers } ∧
        ∀ a, t.byte .mbx a = if a < s.cmdData.length then s.cmdData[a]? else s.byte .mbx a) ∧
      (0 < s.mbxLen → exec .mbxPost s = .next { s with
        notificationsFailed := (s.notificationsFailed + 1) % 2 ^ s.cfg.ctrWidth
        answers := ⟨s.portCls, s.portAgent, .mailboxFull, []⟩ :: s.answers }) ∧
      (s.mbxLen = -1 → exec .mbxPost s = .next { s with
        answers := ⟨s.portCls, s.portAgent, .deviceGone, []⟩ :: s.answers })) ∧
    (s.cmdData.length = 0 ∨ s.cfg.maximumFrameSize - 2 < s.cmdData.length → exec .mbxPost s = .refused .operandSize)

/-- R315, R317, the step `ENTER` of `MBX.TAKE`: a free lock is taken and the consumer looks next; a held one answers `Busy`
under `MBX_CONTENTION = Busy`, `WouldBlock` to a non-blocking consumer, and holds a blocking one at the lock. The operation is
admitted while `Connected` and registered (R433, log 43), or under the sentinel. That the first look is a later step is log 14. -/
def Obligations.MbxTakeEnters : Prop :=
  ∀ (s : State) (nb : Bool), s.portCls = .consumer →
    ((s.connState = .connected ∧ s.registered = true) ∨ s.mbxLen = -1) →
    s.portAgent ∉ s.mbxHeld → (∀ c, s.mbxInside = some c → c.agent ≠ s.portAgent) →
      (s.mbxLock = false → exec (.mbxTake nb) s = .next { s with
        mbxLock := true
        mbxInside := some ⟨s.portAgent, nb, .look⟩ }) ∧
      (s.mbxLock = true → s.cfg.mbxContention = .busy → exec (.mbxTake nb) s = .next { s with
        answers := ⟨.consumer, s.portAgent, .busy, []⟩ :: s.answers }) ∧
      (s.mbxLock = true → s.cfg.mbxContention = .hold → nb = true → exec (.mbxTake nb) s = .next { s with
        answers := ⟨.consumer, s.portAgent, .wouldBlock, []⟩ :: s.answers }) ∧
      (s.mbxLock = true → s.cfg.mbxContention = .hold → nb = false → exec (.mbxTake nb) s = .next { s with
        mbxHeld := s.mbxHeld ++ [s.portAgent] })

/-- R315, the step `LOOK` and the wait of `MBX.TAKE`: the sentinel, then the data, which is consumed, then an empty mailbox,
where a blocking consumer waits; an interruption ends the wait; every way out releases the lock and changes no counter. A
consumer held at the lock (R317) waits while another is inside, enters at its turn once the lock is free, and leaves when it is
interrupted, with the lock as it was. -/
def Obligations.MbxTakeLooks : Prop :=
  (∀ (s : State) (a : Nat), live s → a ∈ s.mbxHeld →
    (s.mbxInside = none → s.mbxLock = false → Runs s (.consumerTurn a) { s with
      mbxLock := true
      mbxInside := some ⟨a, false, .look⟩
      mbxHeld := s.mbxHeld.filter fun b => decide (b ≠ a) }) ∧
    (∀ c, s.mbxInside = some c → c.agent ≠ a → Runs s (.consumerTurn a) s) ∧
    Runs s (.interrupt .consumer a) { s with
      mbxHeld := s.mbxHeld.filter fun b => decide (b ≠ a)
      answers := ⟨.consumer, a, .interrupted, []⟩ :: s.answers }) ∧
  ∀ (s : State) (c : Consumer), live s → s.mbxInside = some c →
    (c.at_ = .look →
      (s.mbxLen = -1 → Runs s (.consumerTurn c.agent) { s with
        mbxLock := false
        mbxInside := none
        answers := ⟨.consumer, c.agent, .deviceGone, []⟩ :: s.answers }) ∧
      (∀ d, 0 < s.mbxLen → s.mbxBuf.read 0 s.mbxLen.toNat = some d → d.length ≤ s.cfg.maximumFrameSize - 2 →
        Runs s (.consumerTurn c.agent) { s with
          mbxLen := 0
          mbxLock := false
          mbxInside := none
          answers := ⟨.consumer, c.agent, .ok, d⟩ :: s.answers }) ∧
      (s.mbxLen = 0 → c.nb = true → Runs s (.consumerTurn c.agent) { s with
        mbxLock := false
        mbxInside := none
        answers := ⟨.consumer, c.agent, .wouldBlock, []⟩ :: s.answers }) ∧
      (s.mbxLen = 0 → c.nb = false → Runs s (.consumerTurn c.agent) { s with
        mbxInside := some { c with at_ := .wait } })) ∧
    (c.at_ = .wait → c.agent ∉ s.mbxHeld →
      Runs s (.consumerTurn c.agent) s ∧
      Runs s (.interrupt .consumer c.agent) { s with
        mbxLock := false
        mbxInside := none
        answers := ⟨.consumer, c.agent, .interrupted, []⟩ :: s.answers })

/-- R318, R320: a notification posted to an empty mailbox is delivered whole, once, to the consumer that enters next: its look
answers exactly the bytes posted and leaves the mailbox empty and the lock free. The slot is `Connected` and the device
registered (R433, R436). -/
def Obligations.PostedIsTaken : Prop :=
  ∀ (s t : State) (a : Nat) (nb : Bool), live s → s.connState = .connected → s.registered = true →
    s.portCls = .bg ∨ s.portCls = .worker → s.mbxLen = 0 → s.mbxLock = false → s.mbxInside = none → s.mbxHeld = [] → exec .mbxPost s = .next t →
      ∃ u, exec (.mbxTake nb) { t with portCls := .consumer, portAgent := a } = .next u ∧
        Runs u (.consumerTurn a) { u with
          mbxLen := 0
          mbxLock := false
          mbxInside := none
          answers := ⟨.consumer, a, .ok, s.cmdData⟩ :: u.answers }

/-! Housekeeping. -/

/-- R340: `LNK.RST` of the worker in `Initiating`, with the sequencer idle and the link free, sets the link parameters to
their defaults and invalidates both descriptors, with stability `Unset` and the current `rid` kept; the descriptor fields the
rule leaves unspecified are free (log 10), and nothing else changes. It is refused unless the sequencer is idle and the link
free. -/
def Obligations.LnkRstResets : Prop :=
  ∀ s : State, s.portCls = .worker → s.connState = .initiating →
    (s.xcvState = .idle → s.linkOwner = .none →
      ∃ t, exec .lnkRst s = .next t ∧
        t = { s with
          frameSize := s.cfg.frameSizeDefault
          crcSize := 2
          speedSclk := s.cfg.speedDefaultHz
          descCur := t.descCur
          descPrev := t.descPrev
          freeCtr := t.freeCtr
          answers := ⟨.worker, s.portAgent, .ok, []⟩ :: s.answers } ∧
        t.descCur.valid = false ∧ t.descPrev.valid = false ∧ t.descCur.fwStability = .unset ∧
        t.descPrev.fwStability = .unset ∧ t.descCur.rid = s.descCur.rid ∧ t.visible = none) ∧
    (s.xcvState ≠ .idle ∨ s.linkOwner ≠ .none → ∃ r, exec .lnkRst s = .refused r)

/-- R341: `STAT.CLR` of the worker at a transition of R357 sets the four counters to 0 in one step; everything else stands.
Which connection states count as such is the model's choice (log 21). -/
def Obligations.StatClrClears : Prop :=
  ∀ s : State, s.portCls = .worker →
    (s.connState = .initiating ∨ (s.connState = .connected ∧ s.cfg.statResetPolicy = .everyTransition)) →
      exec .statClr s = .next { s with
        transmissionErrors := 0
        notificationsReceived := 0
        notificationsFailed := 0
        descriptorFailed := 0
        answers := ⟨.worker, s.portAgent, .ok, []⟩ :: s.answers }

/-- R342: `STAT.RD k`, of any class in any state, answers counter `k` in `CTR_WIDTH / 8` bytes rounded up, the most
significant first, and changes nothing. Byte `i` of `n` is the counter shifted right by `8 (n - 1 - i)` bits. -/
def Obligations.StatRdAnswers : Prop :=
  ∀ (s : State) (k : Counter), ∃ d,
    exec (.statRd k) s = .next { s with answers := ⟨s.portCls, s.portAgent, .ok, d⟩ :: s.answers } ∧
      d.length = (s.cfg.ctrWidth + 7) / 8 ∧
      ∀ i, i < d.length → d[i]? = some (BitVec.ofNat 8 ((match k with
        | .transmissionErrors => s.transmissionErrors
        | .notificationsReceived => s.notificationsReceived
        | .notificationsFailed => s.notificationsFailed
        | .descriptorFailed => s.descriptorFailed) / 2 ^ (8 * (d.length - 1 - i))))

/-! The worker. -/

/-- R351: a debounce sample: a false one starts the debounce over, a true one counts, and the last of `DEBOUNCE_SAMPLES` true
ones moves the slot to `Initiating`; no other state changes. `stop` ends the debounce (R423, R358): that it is tested at every
sample, before the presence level, is the model's choice (log 19), and that the worker goes on to an `MBX.GONE` log 47. That the observation which starts
the debounce is its first sample, and that a false one ends it at once, is the model's choice (log 44). -/
def Obligations.DebounceSamples : Prop :=
  ∀ (s : State) (e : Env) (seen : Nat), live s → s.worker = .debounce seen → workerBlocked s = false →
    s.allocFailed = false → (s.stop = true → s.connState = .disconnected → Runs s (.worker e) { s with worker := .stopGone }) ∧
    (s.stop = false →
      (e.presence = false → Runs s (.worker e) { s with worker := .debounce 0 }) ∧
      (e.presence = true → seen + 1 < s.cfg.debounceSamples →
        Runs s (.worker e) { s with worker := .debounce (seen + 1) }) ∧
      (e.presence = true → s.cfg.debounceSamples ≤ seen + 1 →
        Runs s (.worker e) { s with connState := .initiating, worker := .connStat }))

/-- R343 to R349, one iteration of the poller, step by step, whenever no transaction of the worker runs. P1 waits, tests `stop`,
and starts again when interrupted; P2 skips the poll on an occupied mailbox and counts one failed notification; P3 takes a free
link, or tries again, testing `stop` each time; P4 issues the pull, reads its result, and releases the link on every result; P5
posts a message with a body to the empty mailbox and counts it, and after an empty success or a failure the presence level
decides between the next iteration and the disconnect. An allocation failure waiting to be taken is log 12. That a set latch
ends the wait of P1 with `Ready` whatever the environment has in store, an interruption included, is the model's reading of R431
(log 24). -/
def Obligations.PollIteration : Prop :=
  ∀ (s : State) (e : Env), live s → s.connState = .connected → workerBlocked s = false →
    (s.allocFailed = true → s.worker.mayFail = false) →
    (s.worker = .pollWait →
      (s.stop = true → Runs s (.worker e) { s with readyLatch := false, worker := .stopUnregister }) ∧
      (s.stop = false → s.readyLatch = true → Runs s (.worker e) { s with readyLatch := false, worker := .pollTest }) ∧
      (s.stop = false → s.readyLatch = false → e.ready = .interrupted → Runs s (.worker e) s) ∧
      (s.stop = false → s.readyLatch = false → e.ready ≠ .interrupted → Runs s (.worker e) { s with worker := .pollTest })) ∧
    (s.worker = .pollTest →
      (0 < s.mbxLen → Runs s (.worker e) { s with
        notificationsFailed := (s.notificationsFailed + 1) % 2 ^ s.cfg.ctrWidth
        worker := .pollWait }) ∧
      (s.mbxLen ≤ 0 → Runs s (.worker e) { s with worker := .pollAcquire })) ∧
    (s.worker = .pollAcquire →
      (s.stop = true → Runs s (.worker e) { s with worker := .stopUnregister }) ∧
      (s.stop = false → s.linkOwner = .none → s.fgIntent = 0 →
        Runs s (.worker e) { s with linkOwner := .bg, worker := .pollExchange }) ∧
      (s.stop = false → s.linkOwner ≠ .none ∨ s.fgIntent ≠ 0 → Runs s (.worker e) s)) ∧
    (s.worker = .pollExchange → s.linkOwner = .bg → s.xcvState = .idle → Runs s (.worker e) { s with
      xcvState := .s1Check
      xcvOperand := s.cfg.notifReqMsg
      xcvCaller := .poller
      worker := .pollAwait }) ∧
    (s.worker = .pollAwait →
      (s.xcvReturn = none → Runs s (.worker e) s) ∧
      ∀ r, s.xcvReturn = some r → Runs s (.worker e) { s with xcvReturn := none, worker := .pollRelease r }) ∧
    (∀ r, s.worker = .pollRelease r → s.linkOwner = .bg → s.xcvState = .idle →
      Runs s (.worker e) { s with linkOwner := .none, worker := .pollAct r }) ∧
    ∀ r, s.worker = .pollAct r →
      (r.status = .ok → 4 < r.data.length → r.data.length ≤ s.cfg.maximumFrameSize - 2 → s.mbxLen = 0 →
        ∃ t, Runs s (.worker e) t ∧
          t = { s with
            mbxBuf := t.mbxBuf
            mbxLen := r.data.length
            notificationsReceived := (s.notificationsReceived + 1) % 2 ^ s.cfg.ctrWidth
            mbxInside := s.mbxInside.map fun c => { c with at_ := .look }
            worker := .pollWait } ∧
          ∀ a, t.byte .mbx a = if a < r.data.length then r.data[a]? else s.byte .mbx a) ∧
      (r.status ≠ .ok ∨ r.data.length ≤ 4 → e.presence = true → Runs s (.worker e) { s with worker := .pollWait }) ∧
      (r.status ≠ .ok ∨ r.data.length ≤ 4 → e.presence = false →
        Runs s (.worker e) { s with worker := .leaveUnregister })

/-- R350, R352 to R358, the transition table. Over every step of a slot whose worker's position agrees with its state (an
invariant, kept here): only the worker's turn changes `conn_state`, only along a transition of the table, so never out of
`Failed`; the slot starts in `Disconnected`. And the actions of `CONNECT`, of the probe, of leaving `Connected`, of an
allocation failure and of shutdown, step by step, whenever no transaction of the worker runs: the counters cleared by policy,
`fail_count` one up or 0, registration, the sentinel on leaving, the requesters waiting marked gone (log 15). Of shutdown: the
environment sets `stop` (R423); the worker leaves `CONNECT` after each of its waits (for the link, the last consumers, a probe's
transaction, the backoff; O55 has the fetch) and `Failed`; it issues `MBX.GONE` in every connection state (log 47); the slot is
discarded once it is drained, the sentinel standing, and waits while it is not (R358, R466, and log 20 for the consumers held).
That `stop` is not looked at where the worker does not wait, nor on the way out of `Connected`, so that the clauses at those
positions hold with `stop` set too, is log 19. When the
worker takes a raised allocation failure is log 12, that `MBX.CLR` waits for the last consumers log 31. -/
def Obligations.ConnStateTransitions : Prop :=
  (workerOk State.reset ∧ State.reset.connState = .disconnected) ∧
    (∀ s t : State, workerOk s → step s = .next t →
      workerOk t ∧ (t.connState ≠ s.connState →
        connTransition s.connState t.connState ∧ ∃ e rest, s.inputs = .worker e :: rest)) ∧
    (∀ (s : State) (e : Env), live s → workerBlocked s = false → (s.allocFailed = true → s.worker.mayFail = false) →
      (s.worker = .connStat → Runs s (.worker e) { s with
        transmissionErrors := 0
        notificationsReceived := 0
        notificationsFailed := 0
        descriptorFailed := 0
        worker := .connReset }) ∧
      (s.worker = .connReset → s.stop = false →
        (s.xcvState = .idle → s.linkOwner = .none →
          ∃ t, Runs s (.worker e) t ∧
            t = { s with
              frameSize := s.cfg.frameSizeDefault
              crcSize := 2
              speedSclk := s.cfg.speedDefaultHz
              descCur := t.descCur
              descPrev := t.descPrev
              freeCtr := t.freeCtr
              worker := .connMailbox } ∧
            t.visible = none ∧ t.descCur.rid = s.descCur.rid) ∧
        (s.xcvState ≠ .idle ∨ s.linkOwner ≠ .none → Runs s (.worker e) s)) ∧
      (s.worker = .connMailbox → s.stop = false →
        (s.mbxInside = none → s.mbxHeld = [] → Runs s (.worker e) { s with mbxLen := 0, worker := .connFetch }) ∧
        (s.mbxInside ≠ none ∨ s.mbxHeld ≠ [] → Runs s (.worker e) s)) ∧
      (s.worker = .connReset ∨ s.worker = .connMailbox → s.stop = true → s.connState = .initiating →
        Runs s (.worker e) { s with worker := .stopGone }) ∧
      ((∃ n, s.worker = .probe n) ∨ (∃ n r, s.worker = .probing n ∧ s.xcvReturn = some r) ∨ s.worker = .connDownStat →
        s.stop = true → s.connState = .initiating → s.xcvOuter = none →
          Runs s (.worker e) { s with fetch := none, xcvReturn := none, worker := .stopGone }) ∧
      (s.worker = .connRegister →
        (e.registerOk = true → Runs s (.worker e) { s with registered := true, worker := .connUpStat }) ∧
        (e.registerOk = false → Runs s (.worker e) { s with connState := .failed, worker := .failed })) ∧
      (∀ w w', (w, w') ∈ [(WorkerPos.connUpStat, WorkerPos.connUp), (.connDownStat, .connDown), (.leaveStat, .leaveDown)] →
        s.worker = w → (w = .connDownStat → s.stop = false) →
          (s.cfg.statResetPolicy = .everyTransition → Runs s (.worker e) { s with
            transmissionErrors := 0
            notificationsReceived := 0
            notificationsFailed := 0
            descriptorFailed := 0
            worker := w' }) ∧
          (s.cfg.statResetPolicy = .leaveDisconnected → Runs s (.worker e) { s with worker := w' })) ∧
      (s.worker = .connUp → Runs s (.worker e) { s with failCount := 0, connState := .connected, worker := .pollWait }) ∧
      (∀ n, s.worker = .probe n → s.stop = false → s.connState = .initiating → s.linkOwner = .none → s.xcvState = .idle →
        Runs s (.worker e) { s with
          xcvState := .s1Check
          xcvOperand := descReq s.cfg .protoVersion 0
          xcvCaller := .probe
          worker := .probing n }) ∧
      (∀ n r, s.worker = .probing n → s.stop = false → s.xcvReturn = some r →
        (r.status = .ok ∨ s.cfg.resyncRetries ≤ n + 1 →
          Runs s (.worker e) { s with xcvReturn := none, worker := .connBackoff }) ∧
        (r.status ≠ .ok → n + 1 < s.cfg.resyncRetries →
          Runs s (.worker e) { s with xcvReturn := none, worker := .probe (n + 1) })) ∧
      (s.worker = .connBackoff → Runs s (.worker e) { s with failCount := s.failCount + 1, worker := .connDownStat }) ∧
      (s.worker = .connDown → Runs s (.worker e) { s with connState := .disconnected, worker := .debounce 0 }) ∧
      (∀ w w', (w, w') ∈ [(WorkerPos.leaveUnregister, WorkerPos.leaveGone), (.failUnregister, .failGone),
          (.stopUnregister, .stopGone)] → s.worker = w → Runs s (.worker e) { s with registered := false, worker := w' }) ∧
      (∀ w w', (w, w') ∈ [(WorkerPos.leaveGone, WorkerPos.leaveStat), (.failGone, .failDown), (.stopGone, .stopDrain)] →
        s.worker = w → Runs s (.worker e) { s with
          mbxLen := -1
          mbxInside := s.mbxInside.map fun c => { c with at_ := .look }
          worker := w' }) ∧
      (s.worker = .leaveDown → Runs s (.worker e) { s with
        connState := .disconnected
        fgWaiters := s.fgWaiters.map fun w => { w with gone := true }
        worker := .debounce 0 }) ∧
      (s.worker = .failDown → Runs s (.worker e) { s with
        connState := .failed
        fgWaiters := s.fgWaiters.map fun w => { w with gone := true }
        worker := .failed }) ∧
      (s.worker = .failed →
        (s.stop = false → Runs s (.worker e) s) ∧
        (s.stop = true → s.connState = .failed → Runs s (.worker e) { s with worker := .stopGone })) ∧
      (s.worker = .stopDrain →
        (s.xcvState = .idle → s.linkOwner = .none → s.fgIntent = 0 → s.mbxLock = false → s.mbxHeld = [] → s.mbxLen = -1 →
          Runs s (.worker e) { s with discarded := true, worker := .ended }) ∧
        (s.xcvState ≠ .idle ∨ s.linkOwner ≠ .none ∨ s.fgIntent ≠ 0 ∨ s.mbxLock = true ∨ s.mbxHeld ≠ [] ∨
            s.mbxLen ≠ -1 →
          Runs s (.worker e) s))) ∧
    ∀ (s : State) (e : Env), live s →
      Runs s .stopSet { s with stop := true } ∧
      Runs s .allocFailure { s with allocFailed := true } ∧
      (workerBlocked s = false → s.allocFailed = true → s.worker.mayFail = true →
        (s.connState = .connected → s.registered = true → Runs s (.worker e) { s with worker := .failUnregister }) ∧
        (s.connState = .connected → s.registered = false → Runs s (.worker e) { s with worker := .failGone }) ∧
        (s.connState ≠ .connected → s.xcvOuter = none → Runs s (.worker e) { s with
          connState := .failed
          fetch := none
          xcvReturn := none
          worker := .failed }))

/-- R466: the slot's state is discarded only when `stop` has been seen, the device is unregistered, the gone-sentinel of
`MBX.GONE` stands, the sequencer is idle, the link has no owner, no intent is outstanding and the mailbox lock is free; and no
step of any agent happens after. That `MBX.GONE` is issued at a shutdown outside `Connected` too, where R358 asks it of
`Connected` only, is log 47. -/
def Obligations.DrainBeforeFree : Prop :=
  (∀ s t : State, workerOk s → step s = .next t → t.discarded = true →
    s.discarded = false ∧ s.stop = true ∧ s.registered = false ∧ s.mbxLen = -1 ∧
      s.xcvState = .idle ∧ s.linkOwner = .none ∧ s.fgIntent = 0 ∧ s.mbxLock = false) ∧
    ∀ s : State, s.discarded = true → step s = .refused .slotDiscarded

/-! The descriptor fetcher. -/

/-- R360 to R368 on a fresh connect: the fetch starts by keeping a valid current descriptor as the previous one; it issues the
request of the current field or chunk, which R361 lets no directive match, waits for the result, and takes what the result
gives (`fieldTaken`); a result that fails the field (`fieldFails`) counts one descriptor failure and publishes nothing; once
every field is got the scratch record is published whole in one step, valid, with a `rid` that is neither 0 nor the previous
one. What `desc_req` and `desc_parse` answer is free within R361 (log 17), and the drawn `rid` the environment's (log 23). How
`fieldTaken` and `fieldFails` read a chunk's length, a chunk answer to a fixed field and a serial code of another size is the
model's reading (log 18). With `stop` set the worker leaves the fetch at its next turn, which is after the wait for the field
transaction in progress, if one is (R423, log 19), and goes on to an `MBX.GONE` (log 47). -/
def Obligations.FreshFetch : Prop :=
  (∀ (c : Config) (f : DescField) (i : Nat), c.wf = true →
    isMessage (descReq c f i) = true ∧ (descReq c f i).length ≤ c.frameSizeMin - 2 ∧
      matchesSomeShape c (descReq c f i) = false) ∧
  ∀ (s : State) (e : Env), live s → workerBlocked s = false → s.allocFailed = false →
    (s.worker = .connFetch → ∃ t, Runs s (.worker e) t ∧
      t.descCur = { s.descCur with valid := false } ∧
      t.descPrev = (if s.descCur.valid then s.descCur else s.descPrev) ∧
      t.worker = .connFetching ∧ ∃ st, t.fetch = some st ∧ st.preserveRid = 0 ∧ st.prevRid = s.descCur.rid ∧
        st.todo = fieldOrder ∧ st.awaiting = false ∧ st.chunk = 0 ∧ st.total = 0 ∧
        st.scratch.fwStability = s.descCur.fwStability) ∧
    (s.worker = .connFetching → s.stop = true → s.connState = .initiating → s.xcvOuter = none →
      Runs s (.worker e) { s with fetch := none, xcvReturn := none, worker := .stopGone }) ∧
    ∀ st, s.worker = .connFetching → s.stop = false → s.fetch = some st →
      (st.todo = [] → st.preserveRid = 0 → ∃ rid : BitVec 32, rid ≠ 0 ∧ rid ≠ st.prevRid ∧
        (e.rid ≠ 0 → e.rid ≠ st.prevRid → rid = e.rid) ∧
        Runs s (.worker e) { s with
          descCur := { st.scratch with rid := rid, valid := true }
          fetch := none
          worker := .connRegister }) ∧
      ∀ f rest, st.todo = f :: rest →
        (st.awaiting = false → s.xcvState = .idle → s.xcvOuter = none → s.connState = .initiating → s.linkOwner = .none →
          Runs s (.worker e) { s with
            xcvState := .s1Check
            xcvOperand := descReq s.cfg f st.chunk
            xcvCaller := .fetcher
            fetch := some { st with awaiting := true } }) ∧
        (st.awaiting = true → s.xcvReturn = none → Runs s (.worker e) s) ∧
        ∀ r, st.awaiting = true → s.xcvReturn = some r →
          (∀ st', fieldTaken s.cfg st f rest r st' → Runs s (.worker e) { s with xcvReturn := none, fetch := some st' }) ∧
          (fieldFails s.cfg st f r → Runs s (.worker e) { s with
            xcvReturn := none
            descriptorFailed := (s.descriptorFailed + 1) % 2 ^ s.cfg.ctrWidth
            fetch := none
            worker := .probe 0 })

/-! Reset, invariants, isolation. -/

/-- R451, R52: what allocation reset leaves, in the values the spec gives, under any `Config` and for any configured logical
id; the machine's own reset is the one under REFCFG, which is well formed (R6), with the id 0 (the model's choice, log 39). -/
def Obligations.ResetLeaves : Prop :=
  (∀ (c : Config) (id : Nat), let s := State.resetWith c id
    s.cfg = c ∧ s.slotId = id ∧ s.connState = .disconnected ∧ s.xcvState = .idle ∧ s.linkOwner = .none ∧
      s.fgIntent = 0 ∧ s.mbxLen = 0 ∧ s.mbxLock = false ∧
      s.transmissionErrors = 0 ∧ s.notificationsReceived = 0 ∧ s.notificationsFailed = 0 ∧ s.descriptorFailed = 0 ∧
      s.frameSize = c.frameSizeDefault ∧ s.crcSize = 2 ∧ s.speedSclk = c.speedDefaultHz ∧ s.visible = none ∧
      s.descCur.rid = 0 ∧ s.descPrev.rid = 0 ∧ s.descCur.fwStability = .unset ∧ s.descPrev.fwStability = .unset ∧
      s.failCount = 0 ∧ s.stop = false ∧ s.vars = ⟨false, false, false, false, c.tReadyDefaultMs, none, none, false⟩ ∧
      s.crcWritten = false ∧ ∀ b a, s.byte b a = none) ∧
    State.reset = State.resetWith refcfg 0 ∧ refcfg.wf = true

/-- The slot after allocation reset meets the invariant of R50, R51, R283, R320 and R73, under every well-formed `Config` and for every id, and so
does the machine's own reset, under REFCFG. -/
def Obligations.ResetMeetsInvariant : Prop :=
  (∀ (c : Config) (id : Nat), c.wf = true → SlotInv (State.resetWith c id) ∧ bytesReady (State.resetWith c id)) ∧
    SlotInv State.reset ∧ bytesReady State.reset

/-- R50, R51, R70, R72, R283, R320: from every state that meets the slot's invariant, a step leads to a state that meets it:
every buffer canonical and within its capacity, `frame_size` within its bounds, `crc_size` 2, the intents the waiters and the
owner, `mbx_len` -1 or within the capacity, the lock held exactly while a consumer is inside, the counters within their width,
and a transaction in progress under its issuer's ownership. For the worker's own transactions in `Initiating`, which need no
ownership (R191), that is that no agent holds the link: R50 asks an owner of every transaction (the model's reading, log 25). -/
def Obligations.StepKeepsInvariant : Prop := ∀ s t : State, SlotInv s → step s = .next t → SlotInv t

/-- R73: a read of a byte that nothing has written, within a buffer's capacity, is a fault; and from a state that meets the
invariant and in which what the sequencer will read has been written, no step makes such a read, and what the next step will
read has been written again. -/
def Obligations.NoUnwrittenByteRead : Prop :=
  (∀ (s : State) (b : BufName) (off n a : Nat), off + n ≤ capacity s.cfg b → off ≤ a → a < off + n →
    s.byte b a = none → memRead s b off n = .error (.fault (.unwrittenByte b))) ∧
    ∀ s : State, SlotInv s → bytesReady s →
      (∀ f, step s ≠ .fault f) ∧ ∀ t, step s = .next t → bytesReady t

/-- R441, R413, R52: a system is constructed at startup with one slot right after allocation reset for each configured logical
id, under that id as its `slot_id`, and with no other slot. A step of one slot of a system changes no other slot, whatever its
outcome does to its own; the slot itself steps as it would alone, and does so whenever it steps alone to a next state. No step
adds or removes a slot, and `slot_id` goes on identifying each. -/
def Obligations.SlotsAreIsolated : Prop :=
  (∀ slots : List (Nat × Config), (slots.map Prod.fst).Nodup →
    (System.startup slots).wf ∧ (System.startup slots).ids = slots.map Prod.fst ∧
      (∀ id c, (id, c) ∈ slots → (System.startup slots).slot id = some (State.resetWith c id)) ∧
      ∀ id, id ∉ slots.map Prod.fst → (System.startup slots).slot id = none) ∧
    (∀ (y z : System) (id : Nat), System.stepSlot y id = .next z →
      (∀ k, k ≠ id → z.slot k = y.slot k) ∧ (∀ s, y.slot id = some s → ∃ t, step s = .next t ∧ z.slot id = some t) ∧
        z.ids = y.ids ∧ (y.wf → z.wf)) ∧
    ∀ (y : System) (id : Nat) (s t : State), y.slot id = some s → step s = .next t →
      ∃ z, System.stepSlot y id = .next z ∧ z.slot id = some t
end

