-- ==== Sys2Proof/Laws/Memory.lean ====
section
/-! SUPPORT. Laws of the byte buffers: what a write leaves at every offset, and that it keeps the canonical form. -/

namespace Sys2Proof.Laws

open Sys2Proof.Machine

variable {m : Memory} {s t : State} {b c : BufName} {off a n : Nat} {v : List Byte}

theorem get_append (l r : Memory) (a : Nat) :
    Memory.get (l ++ r) a = (Memory.get l a).or (Memory.get r a) := by
  induction l with
  | nil => simp [Memory.get]
  | cons x l ih =>
    obtain ⟨k, y⟩ := x
    by_cases h : k = a <;> simp [Memory.get, h, ih]

theorem get_filter (p : Nat → Bool) (m : Memory) (a : Nat) :
    Memory.get (m.filter fun c => p c.1) a = if p a then Memory.get m a else none := by
  induction m with
  | nil => simp [Memory.get]
  | cons x m ih =>
    obtain ⟨k, y⟩ := x
    by_cases hp : p k = true
    · by_cases h : k = a
      · subst h; simp [Memory.get, hp]
      · simp [hp, Memory.get, h, ih]
    · by_cases h : k = a
      · subst h; simpa [hp] using ih
      · simp [hp, Memory.get, h, ih]

/-- The cells of a string hold its bytes, and nothing outside it. -/
theorem get_cellsFrom (off : Nat) (v : List Byte) (a : Nat) :
    Memory.get (cellsFrom off v) a = if off ≤ a then v[a - off]? else none := by
  induction v generalizing off with
  | nil => simp [cellsFrom, Memory.get]
  | cons x v ih =>
    simp only [cellsFrom, Memory.get, ih]
    by_cases h : off = a
    · subst h; simp
    · by_cases h' : off ≤ a
      · have e : a - off = (a - (off + 1)) + 1 := by omega
        have h1 : off + 1 ≤ a := by omega
        simp [h, h', e, h1]
      · have h1 : ¬ off + 1 ≤ a := by omega
        simp [h, h', h1]

/-- What every offset holds after a write: the bytes written inside it, what stood there outside it. -/
theorem get_write (m : Memory) (off : Nat) (v : List Byte) (a : Nat) :
    (m.write off v).get a = if off ≤ a ∧ a < off + v.length then v[a - off]? else m.get a := by
  have h1 := get_filter (fun k => decide (k < off)) m a
  have h2 := get_filter (fun k => decide (off + v.length ≤ k)) m a
  simp only [Memory.write, get_append, h1, h2, get_cellsFrom]
  by_cases ha : off ≤ a
  · by_cases hb : a < off + v.length
    · have hlt : a - off < v.length := by omega
      have n1 : ¬ a < off := by omega
      simp [ha, hb, n1, List.getElem?_eq_getElem hlt]
    · have n1 : ¬ a < off := by omega
      have n2 : off + v.length ≤ a := by omega
      have n3 : v[a - off]? = none := by simp; omega
      simp [hb, n1, n2, n3, ha]
  · have n1 : a < off := by omega
    have n2 : ¬ off + v.length ≤ a := by omega
    simp [ha, n1, n2]

/-- A read after a write of the same bytes gives them back, byte by byte. -/
theorem get_write_inside (h : a < v.length) : (m.write off v).get (off + a) = some v[a] := by
  rw [get_write, if_pos (by omega)]
  simp [h]

/-- A write leaves every byte outside it alone. -/
theorem get_write_outside (h : a < off ∨ off + v.length ≤ a) : (m.write off v).get a = m.get a := by
  rw [get_write, if_neg (by omega)]

/-- `n` bytes can be read when each has been written, and then they are those bytes. -/
theorem read_eq_some_iff (m : Memory) (off n : Nat) (v : List Byte) :
    m.read off n = some v ↔ v.length = n ∧ ∀ i (h : i < v.length), m.get (off + i) = some v[i] := by
  induction n generalizing off v with
  | zero =>
    constructor
    · intro h; simp only [Memory.read, Option.some.injEq] at h; subst h; simp
    · rintro ⟨h, -⟩; simp [Memory.read, List.length_eq_zero_iff.1 h]
  | succ n ih =>
    constructor
    · intro h
      simp only [Memory.read] at h
      split at h
      · next x bs hx hbs =>
        simp only [Option.some.injEq] at h
        subst h
        obtain ⟨hl, hg⟩ := (ih _ _).1 hbs
        refine ⟨by simp [hl], ?_⟩
        intro i hi
        cases i with
        | zero => simpa using hx
        | succ i =>
          have := hg i (by simpa using hi)
          simpa [Nat.add_assoc, Nat.add_comm 1 i] using this
      · simp at h
    · rintro ⟨hl, hg⟩
      match v, hl, hg with
      | [], hl, _ => simp at hl
      | x :: bs, hl, hg =>
        have h0 : m.get off = some x := hg 0 (by simp)
        have ht : m.read (off + 1) n = some bs := by
          refine (ih _ _).2 ⟨by simpa using hl, ?_⟩
          intro i hi
          have := hg (i + 1) (by simpa using hi)
          simpa [Nat.add_assoc, Nat.add_comm 1 i] using this
        simp [Memory.read, h0, ht]

/-- A read of the bytes just written answers them. -/
theorem read_write (m : Memory) (off : Nat) (v : List Byte) : (m.write off v).read off v.length = some v :=
  (read_eq_some_iff _ _ _ _).2 ⟨rfl, fun _ h => get_write_inside h⟩

/-- Reading succeeds exactly where every byte has been written. -/
theorem read_isSome_iff (m : Memory) (off n : Nat) :
    (m.read off n).isSome = true ↔ ∀ i, i < n → (m.get (off + i)).isSome = true := by
  induction n generalizing off with
  | zero => simp [Memory.read]
  | succ n ih =>
    constructor
    · intro h i hi
      simp only [Memory.read] at h
      split at h
      · next x bs hx hbs =>
        cases i with
        | zero => simp [hx]
        | succ i =>
          have := (ih (off + 1)).1 (by simp [hbs]) i (by omega)
          simpa [Nat.add_assoc, Nat.add_comm 1 i] using this
      · simp at h
    · intro h
      have h0 := h 0 (by omega)
      have ht : (m.read (off + 1) n).isSome = true := (ih _).2 fun i hi => by
        have := h (i + 1) (by omega)
        simpa [Nat.add_assoc, Nat.add_comm 1 i] using this
      obtain ⟨x, hx⟩ := Option.isSome_iff_exists.1 h0
      obtain ⟨y, hy⟩ := Option.isSome_iff_exists.1 ht
      simp only [Nat.add_zero] at hx
      simp [Memory.read, hx, hy]

theorem cellsFrom_bounds {x : Host.Cell} (h : x ∈ cellsFrom off v) : off ≤ x.1 ∧ x.1 < off + v.length := by
  induction v generalizing off with
  | nil => simp [cellsFrom] at h
  | cons y v ih =>
    simp only [cellsFrom, List.mem_cons] at h
    rcases h with rfl | h
    · simp
    · have := ih h; simp only [List.length_cons]; omega

theorem cellsFrom_wf (off : Nat) (v : List Byte) : Memory.wf (cellsFrom off v) := by
  induction v generalizing off with
  | nil => simp [cellsFrom, Memory.wf]
  | cons y v ih =>
    refine List.pairwise_cons.2 ⟨fun x hx => ?_, ih _⟩
    have := (cellsFrom_bounds hx).1
    simp only at this ⊢
    omega

/-- A write keeps the canonical form. -/
theorem write_wf (h : m.wf) : (m.write off v).wf := by
  unfold Memory.write
  refine List.pairwise_append.2 ⟨List.pairwise_append.2 ⟨h.filter _, cellsFrom_wf _ _, ?_⟩, h.filter _, ?_⟩
  · intro x hx y hy
    have := (cellsFrom_bounds hy).1
    simp only [List.mem_filter, decide_eq_true_eq] at hx
    omega
  · intro x hx y hy
    simp only [List.mem_append, List.mem_filter, decide_eq_true_eq] at hx hy
    rcases hx with hx | hx
    · omega
    · have := (cellsFrom_bounds hx).2; omega

/-- Every cell of a buffer after a write is a cell of before or one of the bytes written. -/
theorem mem_write {x : Host.Cell} (h : x ∈ m.write off v) : x ∈ m ∨ (off ≤ x.1 ∧ x.1 < off + v.length) := by
  simp only [Memory.write, List.mem_append, List.mem_filter] at h
  rcases h with (h | h) | h
  · exact .inl h.1
  · exact .inr (cellsFrom_bounds h)
  · exact .inl h.1

@[simp] theorem setBuf_buf_same (s : State) (b : BufName) (m : Memory) : (s.setBuf b m).buf b = m := by
  cases b <;> rfl

theorem setBuf_buf_other (h : c ≠ b) : (s.setBuf b m).buf c = s.buf c := by
  cases b <;> cases c <;> first | rfl | exact absurd rfl h

@[simp] theorem setBuf_cfg (s : State) (b : BufName) (m : Memory) : (s.setBuf b m).cfg = s.cfg := by cases b <;> rfl

/-- What `memRead` answers when it answers: the bytes of the buffer, within its capacity. -/
theorem memRead_ok (h : memRead s b off n = .ok v) : (s.buf b).read off n = some v ∧ off + n ≤ capacity s.cfg b := by
  unfold memRead at h
  split at h
  · split at h
    · next w hr =>
      injection h with h
      exact ⟨h ▸ hr, ‹_›⟩
    · cases h
  · cases h

theorem memRead_length (h : memRead s b off n = .ok v) : v.length = n :=
  ((read_eq_some_iff _ _ _ _).1 (memRead_ok h).1).1

/-- `memRead` answers where the access is inside the buffer and every byte has been written. -/
theorem memRead_of_read (h : (s.buf b).read off n = some v) (hc : off + n ≤ capacity s.cfg b) :
    memRead s b off n = .ok v := by
  simp [memRead, h, hc]

/-- What `memWrite` answers when it answers: the buffer with the bytes written, within its capacity. -/
theorem memWrite_ok (h : memWrite s b off v = .ok t) :
    t = s.setBuf b ((s.buf b).write off v) ∧ off + v.length ≤ capacity s.cfg b := by
  unfold memWrite at h
  split at h
  · next hc =>
    injection h with h
    exact ⟨h.symm, hc⟩
  · cases h

theorem memWrite_of_le (hc : off + v.length ≤ capacity s.cfg b) :
    memWrite s b off v = .ok (s.setBuf b ((s.buf b).write off v)) := if_pos hc

/-- Every buffer at reset is canonical: nothing has been written. -/
theorem reset_buf_wf (b : BufName) : (State.reset.buf b).wf := by
  cases b <;> exact List.Pairwise.nil

end Sys2Proof.Laws
end

