-- ==== Sys2Proof/Laws/State.lean ====
section
/-! SUPPORT. One lemma per field and named update of State, so that no proof unfolds a record update. -/

namespace Sys2Proof.Laws

open Sys2Proof.Machine

section deliver

variable (s : State) (c : Cls) (a : Nat) (st : Status) (d : List Byte)

@[simp] theorem deliver_cfg : (s.deliver c a st d).cfg = s.cfg := rfl
@[simp] theorem deliver_txBuf : (s.deliver c a st d).txBuf = s.txBuf := rfl
@[simp] theorem deliver_rxScratch : (s.deliver c a st d).rxScratch = s.rxScratch := rfl
@[simp] theorem deliver_rxPrimary : (s.deliver c a st d).rxPrimary = s.rxPrimary := rfl
@[simp] theorem deliver_rxSide : (s.deliver c a st d).rxSide = s.rxSide := rfl
@[simp] theorem deliver_rxRetx : (s.deliver c a st d).rxRetx = s.rxRetx := rfl
@[simp] theorem deliver_crcAcc : (s.deliver c a st d).crcAcc = s.crcAcc := rfl
@[simp] theorem deliver_crcWritten : (s.deliver c a st d).crcWritten = s.crcWritten := rfl
@[simp] theorem deliver_reqMsg : (s.deliver c a st d).reqMsg = s.reqMsg := rfl
@[simp] theorem deliver_reqLen : (s.deliver c a st d).reqLen = s.reqLen := rfl
@[simp] theorem deliver_respMsg : (s.deliver c a st d).respMsg = s.respMsg := rfl
@[simp] theorem deliver_respLen : (s.deliver c a st d).respLen = s.respLen := rfl
@[simp] theorem deliver_mbxBuf : (s.deliver c a st d).mbxBuf = s.mbxBuf := rfl
@[simp] theorem deliver_xcvState : (s.deliver c a st d).xcvState = s.xcvState := rfl
@[simp] theorem deliver_xcvErr : (s.deliver c a st d).xcvErr = s.xcvErr := rfl
@[simp] theorem deliver_xcvOperand : (s.deliver c a st d).xcvOperand = s.xcvOperand := rfl
@[simp] theorem deliver_xcvCaller : (s.deliver c a st d).xcvCaller = s.xcvCaller := rfl
@[simp] theorem deliver_xcvReturn : (s.deliver c a st d).xcvReturn = s.xcvReturn := rfl
@[simp] theorem deliver_xcvOuter : (s.deliver c a st d).xcvOuter = s.xcvOuter := rfl
@[simp] theorem deliver_vars : (s.deliver c a st d).vars = s.vars := rfl
@[simp] theorem deliver_readyLatch : (s.deliver c a st d).readyLatch = s.readyLatch := rfl
@[simp] theorem deliver_frameSize : (s.deliver c a st d).frameSize = s.frameSize := rfl
@[simp] theorem deliver_crcSize : (s.deliver c a st d).crcSize = s.crcSize := rfl
@[simp] theorem deliver_speedSclk : (s.deliver c a st d).speedSclk = s.speedSclk := rfl
@[simp] theorem deliver_linkOwner : (s.deliver c a st d).linkOwner = s.linkOwner := rfl
@[simp] theorem deliver_fgHolder : (s.deliver c a st d).fgHolder = s.fgHolder := rfl
@[simp] theorem deliver_fgIntent : (s.deliver c a st d).fgIntent = s.fgIntent := rfl
@[simp] theorem deliver_fgWaiters : (s.deliver c a st d).fgWaiters = s.fgWaiters := rfl
@[simp] theorem deliver_mbxLen : (s.deliver c a st d).mbxLen = s.mbxLen := rfl
@[simp] theorem deliver_mbxLock : (s.deliver c a st d).mbxLock = s.mbxLock := rfl
@[simp] theorem deliver_mbxInside : (s.deliver c a st d).mbxInside = s.mbxInside := rfl
@[simp] theorem deliver_mbxHeld : (s.deliver c a st d).mbxHeld = s.mbxHeld := rfl
@[simp] theorem deliver_transmissionErrors : (s.deliver c a st d).transmissionErrors = s.transmissionErrors := rfl
@[simp] theorem deliver_notificationsReceived : (s.deliver c a st d).notificationsReceived = s.notificationsReceived := rfl
@[simp] theorem deliver_notificationsFailed : (s.deliver c a st d).notificationsFailed = s.notificationsFailed := rfl
@[simp] theorem deliver_descriptorFailed : (s.deliver c a st d).descriptorFailed = s.descriptorFailed := rfl
@[simp] theorem deliver_connState : (s.deliver c a st d).connState = s.connState := rfl
@[simp] theorem deliver_failCount : (s.deliver c a st d).failCount = s.failCount := rfl
@[simp] theorem deliver_stop : (s.deliver c a st d).stop = s.stop := rfl
@[simp] theorem deliver_slotId : (s.deliver c a st d).slotId = s.slotId := rfl
@[simp] theorem deliver_registered : (s.deliver c a st d).registered = s.registered := rfl
@[simp] theorem deliver_allocFailed : (s.deliver c a st d).allocFailed = s.allocFailed := rfl
@[simp] theorem deliver_discarded : (s.deliver c a st d).discarded = s.discarded := rfl
@[simp] theorem deliver_worker : (s.deliver c a st d).worker = s.worker := rfl
@[simp] theorem deliver_descCur : (s.deliver c a st d).descCur = s.descCur := rfl
@[simp] theorem deliver_descPrev : (s.deliver c a st d).descPrev = s.descPrev := rfl
@[simp] theorem deliver_fetch : (s.deliver c a st d).fetch = s.fetch := rfl
@[simp] theorem deliver_portCls : (s.deliver c a st d).portCls = s.portCls := rfl
@[simp] theorem deliver_portAgent : (s.deliver c a st d).portAgent = s.portAgent := rfl
@[simp] theorem deliver_cmdData : (s.deliver c a st d).cmdData = s.cmdData := rfl
@[simp] theorem deliver_answers : (s.deliver c a st d).answers = ⟨c, a, st, d⟩ :: s.answers := rfl
@[simp] theorem deliver_sent : (s.deliver c a st d).sent = s.sent := rfl
@[simp] theorem deliver_inputs : (s.deliver c a st d).inputs = s.inputs := rfl
@[simp] theorem deliver_freeCtr : (s.deliver c a st d).freeCtr = s.freeCtr := rfl

end deliver

section answer

variable (s : State) (st : Status) (d : List Byte)

@[simp] theorem answer_cfg : (s.answer st d).cfg = s.cfg := rfl
@[simp] theorem answer_txBuf : (s.answer st d).txBuf = s.txBuf := rfl
@[simp] theorem answer_rxScratch : (s.answer st d).rxScratch = s.rxScratch := rfl
@[simp] theorem answer_rxPrimary : (s.answer st d).rxPrimary = s.rxPrimary := rfl
@[simp] theorem answer_rxSide : (s.answer st d).rxSide = s.rxSide := rfl
@[simp] theorem answer_rxRetx : (s.answer st d).rxRetx = s.rxRetx := rfl
@[simp] theorem answer_crcAcc : (s.answer st d).crcAcc = s.crcAcc := rfl
@[simp] theorem answer_crcWritten : (s.answer st d).crcWritten = s.crcWritten := rfl
@[simp] theorem answer_reqMsg : (s.answer st d).reqMsg = s.reqMsg := rfl
@[simp] theorem answer_reqLen : (s.answer st d).reqLen = s.reqLen := rfl
@[simp] theorem answer_respMsg : (s.answer st d).respMsg = s.respMsg := rfl
@[simp] theorem answer_respLen : (s.answer st d).respLen = s.respLen := rfl
@[simp] theorem answer_mbxBuf : (s.answer st d).mbxBuf = s.mbxBuf := rfl
@[simp] theorem answer_xcvState : (s.answer st d).xcvState = s.xcvState := rfl
@[simp] theorem answer_xcvErr : (s.answer st d).xcvErr = s.xcvErr := rfl
@[simp] theorem answer_xcvOperand : (s.answer st d).xcvOperand = s.xcvOperand := rfl
@[simp] theorem answer_xcvCaller : (s.answer st d).xcvCaller = s.xcvCaller := rfl
@[simp] theorem answer_xcvReturn : (s.answer st d).xcvReturn = s.xcvReturn := rfl
@[simp] theorem answer_xcvOuter : (s.answer st d).xcvOuter = s.xcvOuter := rfl
@[simp] theorem answer_vars : (s.answer st d).vars = s.vars := rfl
@[simp] theorem answer_readyLatch : (s.answer st d).readyLatch = s.readyLatch := rfl
@[simp] theorem answer_frameSize : (s.answer st d).frameSize = s.frameSize := rfl
@[simp] theorem answer_crcSize : (s.answer st d).crcSize = s.crcSize := rfl
@[simp] theorem answer_speedSclk : (s.answer st d).speedSclk = s.speedSclk := rfl
@[simp] theorem answer_linkOwner : (s.answer st d).linkOwner = s.linkOwner := rfl
@[simp] theorem answer_fgHolder : (s.answer st d).fgHolder = s.fgHolder := rfl
@[simp] theorem answer_fgIntent : (s.answer st d).fgIntent = s.fgIntent := rfl
@[simp] theorem answer_fgWaiters : (s.answer st d).fgWaiters = s.fgWaiters := rfl
@[simp] theorem answer_mbxLen : (s.answer st d).mbxLen = s.mbxLen := rfl
@[simp] theorem answer_mbxLock : (s.answer st d).mbxLock = s.mbxLock := rfl
@[simp] theorem answer_mbxInside : (s.answer st d).mbxInside = s.mbxInside := rfl
@[simp] theorem answer_mbxHeld : (s.answer st d).mbxHeld = s.mbxHeld := rfl
@[simp] theorem answer_transmissionErrors : (s.answer st d).transmissionErrors = s.transmissionErrors := rfl
@[simp] theorem answer_notificationsReceived : (s.answer st d).notificationsReceived = s.notificationsReceived := rfl
@[simp] theorem answer_notificationsFailed : (s.answer st d).notificationsFailed = s.notificationsFailed := rfl
@[simp] theorem answer_descriptorFailed : (s.answer st d).descriptorFailed = s.descriptorFailed := rfl
@[simp] theorem answer_connState : (s.answer st d).connState = s.connState := rfl
@[simp] theorem answer_failCount : (s.answer st d).failCount = s.failCount := rfl
@[simp] theorem answer_stop : (s.answer st d).stop = s.stop := rfl
@[simp] theorem answer_slotId : (s.answer st d).slotId = s.slotId := rfl
@[simp] theorem answer_registered : (s.answer st d).registered = s.registered := rfl
@[simp] theorem answer_allocFailed : (s.answer st d).allocFailed = s.allocFailed := rfl
@[simp] theorem answer_discarded : (s.answer st d).discarded = s.discarded := rfl
@[simp] theorem answer_worker : (s.answer st d).worker = s.worker := rfl
@[simp] theorem answer_descCur : (s.answer st d).descCur = s.descCur := rfl
@[simp] theorem answer_descPrev : (s.answer st d).descPrev = s.descPrev := rfl
@[simp] theorem answer_fetch : (s.answer st d).fetch = s.fetch := rfl
@[simp] theorem answer_portCls : (s.answer st d).portCls = s.portCls := rfl
@[simp] theorem answer_portAgent : (s.answer st d).portAgent = s.portAgent := rfl
@[simp] theorem answer_cmdData : (s.answer st d).cmdData = s.cmdData := rfl
@[simp] theorem answer_answers : (s.answer st d).answers = ⟨s.portCls, s.portAgent, st, d⟩ :: s.answers := rfl
@[simp] theorem answer_sent : (s.answer st d).sent = s.sent := rfl
@[simp] theorem answer_inputs : (s.answer st d).inputs = s.inputs := rfl
@[simp] theorem answer_freeCtr : (s.answer st d).freeCtr = s.freeCtr := rfl

end answer

section raise

variable (s : State) (e : Status)

@[simp] theorem raise_cfg : (s.raise e).cfg = s.cfg := rfl
@[simp] theorem raise_txBuf : (s.raise e).txBuf = s.txBuf := rfl
@[simp] theorem raise_rxScratch : (s.raise e).rxScratch = s.rxScratch := rfl
@[simp] theorem raise_rxPrimary : (s.raise e).rxPrimary = s.rxPrimary := rfl
@[simp] theorem raise_rxSide : (s.raise e).rxSide = s.rxSide := rfl
@[simp] theorem raise_rxRetx : (s.raise e).rxRetx = s.rxRetx := rfl
@[simp] theorem raise_crcAcc : (s.raise e).crcAcc = s.crcAcc := rfl
@[simp] theorem raise_crcWritten : (s.raise e).crcWritten = s.crcWritten := rfl
@[simp] theorem raise_reqMsg : (s.raise e).reqMsg = s.reqMsg := rfl
@[simp] theorem raise_reqLen : (s.raise e).reqLen = s.reqLen := rfl
@[simp] theorem raise_respMsg : (s.raise e).respMsg = s.respMsg := rfl
@[simp] theorem raise_respLen : (s.raise e).respLen = s.respLen := rfl
@[simp] theorem raise_mbxBuf : (s.raise e).mbxBuf = s.mbxBuf := rfl
@[simp] theorem raise_xcvState : (s.raise e).xcvState = s.xcvState := rfl
@[simp] theorem raise_xcvErr : (s.raise e).xcvErr = s.xcvErr := rfl
@[simp] theorem raise_xcvOperand : (s.raise e).xcvOperand = s.xcvOperand := rfl
@[simp] theorem raise_xcvCaller : (s.raise e).xcvCaller = s.xcvCaller := rfl
@[simp] theorem raise_xcvReturn : (s.raise e).xcvReturn = s.xcvReturn := rfl
@[simp] theorem raise_xcvOuter : (s.raise e).xcvOuter = s.xcvOuter := rfl
@[simp] theorem raise_vars : (s.raise e).vars = s.vars := rfl
@[simp] theorem raise_readyLatch : (s.raise e).readyLatch = s.readyLatch := rfl
@[simp] theorem raise_frameSize : (s.raise e).frameSize = s.frameSize := rfl
@[simp] theorem raise_crcSize : (s.raise e).crcSize = s.crcSize := rfl
@[simp] theorem raise_speedSclk : (s.raise e).speedSclk = s.speedSclk := rfl
@[simp] theorem raise_linkOwner : (s.raise e).linkOwner = s.linkOwner := rfl
@[simp] theorem raise_fgHolder : (s.raise e).fgHolder = s.fgHolder := rfl
@[simp] theorem raise_fgIntent : (s.raise e).fgIntent = s.fgIntent := rfl
@[simp] theorem raise_fgWaiters : (s.raise e).fgWaiters = s.fgWaiters := rfl
@[simp] theorem raise_mbxLen : (s.raise e).mbxLen = s.mbxLen := rfl
@[simp] theorem raise_mbxLock : (s.raise e).mbxLock = s.mbxLock := rfl
@[simp] theorem raise_mbxInside : (s.raise e).mbxInside = s.mbxInside := rfl
@[simp] theorem raise_mbxHeld : (s.raise e).mbxHeld = s.mbxHeld := rfl
@[simp] theorem raise_transmissionErrors : (s.raise e).transmissionErrors = s.transmissionErrors := rfl
@[simp] theorem raise_notificationsReceived : (s.raise e).notificationsReceived = s.notificationsReceived := rfl
@[simp] theorem raise_notificationsFailed : (s.raise e).notificationsFailed = s.notificationsFailed := rfl
@[simp] theorem raise_descriptorFailed : (s.raise e).descriptorFailed = s.descriptorFailed := rfl
@[simp] theorem raise_connState : (s.raise e).connState = s.connState := rfl
@[simp] theorem raise_failCount : (s.raise e).failCount = s.failCount := rfl
@[simp] theorem raise_stop : (s.raise e).stop = s.stop := rfl
@[simp] theorem raise_slotId : (s.raise e).slotId = s.slotId := rfl
@[simp] theorem raise_registered : (s.raise e).registered = s.registered := rfl
@[simp] theorem raise_allocFailed : (s.raise e).allocFailed = s.allocFailed := rfl
@[simp] theorem raise_discarded : (s.raise e).discarded = s.discarded := rfl
@[simp] theorem raise_worker : (s.raise e).worker = s.worker := rfl
@[simp] theorem raise_descCur : (s.raise e).descCur = s.descCur := rfl
@[simp] theorem raise_descPrev : (s.raise e).descPrev = s.descPrev := rfl
@[simp] theorem raise_fetch : (s.raise e).fetch = s.fetch := rfl
@[simp] theorem raise_portCls : (s.raise e).portCls = s.portCls := rfl
@[simp] theorem raise_portAgent : (s.raise e).portAgent = s.portAgent := rfl
@[simp] theorem raise_cmdData : (s.raise e).cmdData = s.cmdData := rfl
@[simp] theorem raise_answers : (s.raise e).answers = ⟨s.portCls, s.portAgent, e, []⟩ :: s.answers := rfl
@[simp] theorem raise_sent : (s.raise e).sent = s.sent := rfl
@[simp] theorem raise_inputs : (s.raise e).inputs = s.inputs := rfl
@[simp] theorem raise_freeCtr : (s.raise e).freeCtr = s.freeCtr := rfl

end raise

section toFail

variable (s : State) (e : Status)

@[simp] theorem toFail_cfg : (s.toFail e).cfg = s.cfg := rfl
@[simp] theorem toFail_txBuf : (s.toFail e).txBuf = s.txBuf := rfl
@[simp] theorem toFail_rxScratch : (s.toFail e).rxScratch = s.rxScratch := rfl
@[simp] theorem toFail_rxPrimary : (s.toFail e).rxPrimary = s.rxPrimary := rfl
@[simp] theorem toFail_rxSide : (s.toFail e).rxSide = s.rxSide := rfl
@[simp] theorem toFail_rxRetx : (s.toFail e).rxRetx = s.rxRetx := rfl
@[simp] theorem toFail_crcAcc : (s.toFail e).crcAcc = s.crcAcc := rfl
@[simp] theorem toFail_crcWritten : (s.toFail e).crcWritten = s.crcWritten := rfl
@[simp] theorem toFail_reqMsg : (s.toFail e).reqMsg = s.reqMsg := rfl
@[simp] theorem toFail_reqLen : (s.toFail e).reqLen = s.reqLen := rfl
@[simp] theorem toFail_respMsg : (s.toFail e).respMsg = s.respMsg := rfl
@[simp] theorem toFail_respLen : (s.toFail e).respLen = s.respLen := rfl
@[simp] theorem toFail_mbxBuf : (s.toFail e).mbxBuf = s.mbxBuf := rfl
@[simp] theorem toFail_xcvState : (s.toFail e).xcvState = .fail := rfl
@[simp] theorem toFail_xcvErr : (s.toFail e).xcvErr = e := rfl
@[simp] theorem toFail_xcvOperand : (s.toFail e).xcvOperand = s.xcvOperand := rfl
@[simp] theorem toFail_xcvCaller : (s.toFail e).xcvCaller = s.xcvCaller := rfl
@[simp] theorem toFail_xcvReturn : (s.toFail e).xcvReturn = s.xcvReturn := rfl
@[simp] theorem toFail_xcvOuter : (s.toFail e).xcvOuter = s.xcvOuter := rfl
@[simp] theorem toFail_vars : (s.toFail e).vars = s.vars := rfl
@[simp] theorem toFail_readyLatch : (s.toFail e).readyLatch = s.readyLatch := rfl
@[simp] theorem toFail_frameSize : (s.toFail e).frameSize = s.frameSize := rfl
@[simp] theorem toFail_crcSize : (s.toFail e).crcSize = s.crcSize := rfl
@[simp] theorem toFail_speedSclk : (s.toFail e).speedSclk = s.speedSclk := rfl
@[simp] theorem toFail_linkOwner : (s.toFail e).linkOwner = s.linkOwner := rfl
@[simp] theorem toFail_fgHolder : (s.toFail e).fgHolder = s.fgHolder := rfl
@[simp] theorem toFail_fgIntent : (s.toFail e).fgIntent = s.fgIntent := rfl
@[simp] theorem toFail_fgWaiters : (s.toFail e).fgWaiters = s.fgWaiters := rfl
@[simp] theorem toFail_mbxLen : (s.toFail e).mbxLen = s.mbxLen := rfl
@[simp] theorem toFail_mbxLock : (s.toFail e).mbxLock = s.mbxLock := rfl
@[simp] theorem toFail_mbxInside : (s.toFail e).mbxInside = s.mbxInside := rfl
@[simp] theorem toFail_mbxHeld : (s.toFail e).mbxHeld = s.mbxHeld := rfl
@[simp] theorem toFail_transmissionErrors : (s.toFail e).transmissionErrors = s.transmissionErrors := rfl
@[simp] theorem toFail_notificationsReceived : (s.toFail e).notificationsReceived = s.notificationsReceived := rfl
@[simp] theorem toFail_notificationsFailed : (s.toFail e).notificationsFailed = s.notificationsFailed := rfl
@[simp] theorem toFail_descriptorFailed : (s.toFail e).descriptorFailed = s.descriptorFailed := rfl
@[simp] theorem toFail_connState : (s.toFail e).connState = s.connState := rfl
@[simp] theorem toFail_failCount : (s.toFail e).failCount = s.failCount := rfl
@[simp] theorem toFail_stop : (s.toFail e).stop = s.stop := rfl
@[simp] theorem toFail_slotId : (s.toFail e).slotId = s.slotId := rfl
@[simp] theorem toFail_registered : (s.toFail e).registered = s.registered := rfl
@[simp] theorem toFail_allocFailed : (s.toFail e).allocFailed = s.allocFailed := rfl
@[simp] theorem toFail_discarded : (s.toFail e).discarded = s.discarded := rfl
@[simp] theorem toFail_worker : (s.toFail e).worker = s.worker := rfl
@[simp] theorem toFail_descCur : (s.toFail e).descCur = s.descCur := rfl
@[simp] theorem toFail_descPrev : (s.toFail e).descPrev = s.descPrev := rfl
@[simp] theorem toFail_fetch : (s.toFail e).fetch = s.fetch := rfl
@[simp] theorem toFail_portCls : (s.toFail e).portCls = s.portCls := rfl
@[simp] theorem toFail_portAgent : (s.toFail e).portAgent = s.portAgent := rfl
@[simp] theorem toFail_cmdData : (s.toFail e).cmdData = s.cmdData := rfl
@[simp] theorem toFail_answers : (s.toFail e).answers = s.answers := rfl
@[simp] theorem toFail_sent : (s.toFail e).sent = s.sent := rfl
@[simp] theorem toFail_inputs : (s.toFail e).inputs = s.inputs := rfl
@[simp] theorem toFail_freeCtr : (s.toFail e).freeCtr = s.freeCtr := rfl

end toFail

section startXchg

variable (s : State) (c : Caller) (m : List Byte)

@[simp] theorem startXchg_cfg : (s.startXchg c m).cfg = s.cfg := rfl
@[simp] theorem startXchg_txBuf : (s.startXchg c m).txBuf = s.txBuf := rfl
@[simp] theorem startXchg_rxScratch : (s.startXchg c m).rxScratch = s.rxScratch := rfl
@[simp] theorem startXchg_rxPrimary : (s.startXchg c m).rxPrimary = s.rxPrimary := rfl
@[simp] theorem startXchg_rxSide : (s.startXchg c m).rxSide = s.rxSide := rfl
@[simp] theorem startXchg_rxRetx : (s.startXchg c m).rxRetx = s.rxRetx := rfl
@[simp] theorem startXchg_crcAcc : (s.startXchg c m).crcAcc = s.crcAcc := rfl
@[simp] theorem startXchg_crcWritten : (s.startXchg c m).crcWritten = s.crcWritten := rfl
@[simp] theorem startXchg_reqMsg : (s.startXchg c m).reqMsg = s.reqMsg := rfl
@[simp] theorem startXchg_reqLen : (s.startXchg c m).reqLen = s.reqLen := rfl
@[simp] theorem startXchg_respMsg : (s.startXchg c m).respMsg = s.respMsg := rfl
@[simp] theorem startXchg_respLen : (s.startXchg c m).respLen = s.respLen := rfl
@[simp] theorem startXchg_mbxBuf : (s.startXchg c m).mbxBuf = s.mbxBuf := rfl
@[simp] theorem startXchg_xcvState : (s.startXchg c m).xcvState = .s1Check := rfl
@[simp] theorem startXchg_xcvErr : (s.startXchg c m).xcvErr = s.xcvErr := rfl
@[simp] theorem startXchg_xcvOperand : (s.startXchg c m).xcvOperand = m := rfl
@[simp] theorem startXchg_xcvCaller : (s.startXchg c m).xcvCaller = c := rfl
@[simp] theorem startXchg_xcvReturn : (s.startXchg c m).xcvReturn = s.xcvReturn := rfl
@[simp] theorem startXchg_xcvOuter : (s.startXchg c m).xcvOuter = s.xcvOuter := rfl
@[simp] theorem startXchg_vars : (s.startXchg c m).vars = s.vars := rfl
@[simp] theorem startXchg_readyLatch : (s.startXchg c m).readyLatch = s.readyLatch := rfl
@[simp] theorem startXchg_frameSize : (s.startXchg c m).frameSize = s.frameSize := rfl
@[simp] theorem startXchg_crcSize : (s.startXchg c m).crcSize = s.crcSize := rfl
@[simp] theorem startXchg_speedSclk : (s.startXchg c m).speedSclk = s.speedSclk := rfl
@[simp] theorem startXchg_linkOwner : (s.startXchg c m).linkOwner = s.linkOwner := rfl
@[simp] theorem startXchg_fgHolder : (s.startXchg c m).fgHolder = s.fgHolder := rfl
@[simp] theorem startXchg_fgIntent : (s.startXchg c m).fgIntent = s.fgIntent := rfl
@[simp] theorem startXchg_fgWaiters : (s.startXchg c m).fgWaiters = s.fgWaiters := rfl
@[simp] theorem startXchg_mbxLen : (s.startXchg c m).mbxLen = s.mbxLen := rfl
@[simp] theorem startXchg_mbxLock : (s.startXchg c m).mbxLock = s.mbxLock := rfl
@[simp] theorem startXchg_mbxInside : (s.startXchg c m).mbxInside = s.mbxInside := rfl
@[simp] theorem startXchg_mbxHeld : (s.startXchg c m).mbxHeld = s.mbxHeld := rfl
@[simp] theorem startXchg_transmissionErrors : (s.startXchg c m).transmissionErrors = s.transmissionErrors := rfl
@[simp] theorem startXchg_notificationsReceived : (s.startXchg c m).notificationsReceived = s.notificationsReceived := rfl
@[simp] theorem startXchg_notificationsFailed : (s.startXchg c m).notificationsFailed = s.notificationsFailed := rfl
@[simp] theorem startXchg_descriptorFailed : (s.startXchg c m).descriptorFailed = s.descriptorFailed := rfl
@[simp] theorem startXchg_connState : (s.startXchg c m).connState = s.connState := rfl
@[simp] theorem startXchg_failCount : (s.startXchg c m).failCount = s.failCount := rfl
@[simp] theorem startXchg_stop : (s.startXchg c m).stop = s.stop := rfl
@[simp] theorem startXchg_slotId : (s.startXchg c m).slotId = s.slotId := rfl
@[simp] theorem startXchg_registered : (s.startXchg c m).registered = s.registered := rfl
@[simp] theorem startXchg_allocFailed : (s.startXchg c m).allocFailed = s.allocFailed := rfl
@[simp] theorem startXchg_discarded : (s.startXchg c m).discarded = s.discarded := rfl
@[simp] theorem startXchg_worker : (s.startXchg c m).worker = s.worker := rfl
@[simp] theorem startXchg_descCur : (s.startXchg c m).descCur = s.descCur := rfl
@[simp] theorem startXchg_descPrev : (s.startXchg c m).descPrev = s.descPrev := rfl
@[simp] theorem startXchg_fetch : (s.startXchg c m).fetch = s.fetch := rfl
@[simp] theorem startXchg_portCls : (s.startXchg c m).portCls = s.portCls := rfl
@[simp] theorem startXchg_portAgent : (s.startXchg c m).portAgent = s.portAgent := rfl
@[simp] theorem startXchg_cmdData : (s.startXchg c m).cmdData = s.cmdData := rfl
@[simp] theorem startXchg_answers : (s.startXchg c m).answers = s.answers := rfl
@[simp] theorem startXchg_sent : (s.startXchg c m).sent = s.sent := rfl
@[simp] theorem startXchg_inputs : (s.startXchg c m).inputs = s.inputs := rfl
@[simp] theorem startXchg_freeCtr : (s.startXchg c m).freeCtr = s.freeCtr := rfl

end startXchg

section goto

variable (s : State) (x : XcvState)

@[simp] theorem goto_cfg : (s.goto x).cfg = s.cfg := rfl
@[simp] theorem goto_txBuf : (s.goto x).txBuf = s.txBuf := rfl
@[simp] theorem goto_rxScratch : (s.goto x).rxScratch = s.rxScratch := rfl
@[simp] theorem goto_rxPrimary : (s.goto x).rxPrimary = s.rxPrimary := rfl
@[simp] theorem goto_rxSide : (s.goto x).rxSide = s.rxSide := rfl
@[simp] theorem goto_rxRetx : (s.goto x).rxRetx = s.rxRetx := rfl
@[simp] theorem goto_crcAcc : (s.goto x).crcAcc = s.crcAcc := rfl
@[simp] theorem goto_crcWritten : (s.goto x).crcWritten = s.crcWritten := rfl
@[simp] theorem goto_reqMsg : (s.goto x).reqMsg = s.reqMsg := rfl
@[simp] theorem goto_reqLen : (s.goto x).reqLen = s.reqLen := rfl
@[simp] theorem goto_respMsg : (s.goto x).respMsg = s.respMsg := rfl
@[simp] theorem goto_respLen : (s.goto x).respLen = s.respLen := rfl
@[simp] theorem goto_mbxBuf : (s.goto x).mbxBuf = s.mbxBuf := rfl
@[simp] theorem goto_xcvState : (s.goto x).xcvState = x := rfl
@[simp] theorem goto_xcvErr : (s.goto x).xcvErr = s.xcvErr := rfl
@[simp] theorem goto_xcvOperand : (s.goto x).xcvOperand = s.xcvOperand := rfl
@[simp] theorem goto_xcvCaller : (s.goto x).xcvCaller = s.xcvCaller := rfl
@[simp] theorem goto_xcvReturn : (s.goto x).xcvReturn = s.xcvReturn := rfl
@[simp] theorem goto_xcvOuter : (s.goto x).xcvOuter = s.xcvOuter := rfl
@[simp] theorem goto_vars : (s.goto x).vars = s.vars := rfl
@[simp] theorem goto_readyLatch : (s.goto x).readyLatch = s.readyLatch := rfl
@[simp] theorem goto_frameSize : (s.goto x).frameSize = s.frameSize := rfl
@[simp] theorem goto_crcSize : (s.goto x).crcSize = s.crcSize := rfl
@[simp] theorem goto_speedSclk : (s.goto x).speedSclk = s.speedSclk := rfl
@[simp] theorem goto_linkOwner : (s.goto x).linkOwner = s.linkOwner := rfl
@[simp] theorem goto_fgHolder : (s.goto x).fgHolder = s.fgHolder := rfl
@[simp] theorem goto_fgIntent : (s.goto x).fgIntent = s.fgIntent := rfl
@[simp] theorem goto_fgWaiters : (s.goto x).fgWaiters = s.fgWaiters := rfl
@[simp] theorem goto_mbxLen : (s.goto x).mbxLen = s.mbxLen := rfl
@[simp] theorem goto_mbxLock : (s.goto x).mbxLock = s.mbxLock := rfl
@[simp] theorem goto_mbxInside : (s.goto x).mbxInside = s.mbxInside := rfl
@[simp] theorem goto_mbxHeld : (s.goto x).mbxHeld = s.mbxHeld := rfl
@[simp] theorem goto_transmissionErrors : (s.goto x).transmissionErrors = s.transmissionErrors := rfl
@[simp] theorem goto_notificationsReceived : (s.goto x).notificationsReceived = s.notificationsReceived := rfl
@[simp] theorem goto_notificationsFailed : (s.goto x).notificationsFailed = s.notificationsFailed := rfl
@[simp] theorem goto_descriptorFailed : (s.goto x).descriptorFailed = s.descriptorFailed := rfl
@[simp] theorem goto_connState : (s.goto x).connState = s.connState := rfl
@[simp] theorem goto_failCount : (s.goto x).failCount = s.failCount := rfl
@[simp] theorem goto_stop : (s.goto x).stop = s.stop := rfl
@[simp] theorem goto_slotId : (s.goto x).slotId = s.slotId := rfl
@[simp] theorem goto_registered : (s.goto x).registered = s.registered := rfl
@[simp] theorem goto_allocFailed : (s.goto x).allocFailed = s.allocFailed := rfl
@[simp] theorem goto_discarded : (s.goto x).discarded = s.discarded := rfl
@[simp] theorem goto_worker : (s.goto x).worker = s.worker := rfl
@[simp] theorem goto_descCur : (s.goto x).descCur = s.descCur := rfl
@[simp] theorem goto_descPrev : (s.goto x).descPrev = s.descPrev := rfl
@[simp] theorem goto_fetch : (s.goto x).fetch = s.fetch := rfl
@[simp] theorem goto_portCls : (s.goto x).portCls = s.portCls := rfl
@[simp] theorem goto_portAgent : (s.goto x).portAgent = s.portAgent := rfl
@[simp] theorem goto_cmdData : (s.goto x).cmdData = s.cmdData := rfl
@[simp] theorem goto_answers : (s.goto x).answers = s.answers := rfl
@[simp] theorem goto_sent : (s.goto x).sent = s.sent := rfl
@[simp] theorem goto_inputs : (s.goto x).inputs = s.inputs := rfl
@[simp] theorem goto_freeCtr : (s.goto x).freeCtr = s.freeCtr := rfl

end goto

section goWorker

variable (s : State) (w : WorkerPos)

@[simp] theorem goWorker_cfg : (s.goWorker w).cfg = s.cfg := rfl
@[simp] theorem goWorker_txBuf : (s.goWorker w).txBuf = s.txBuf := rfl
@[simp] theorem goWorker_rxScratch : (s.goWorker w).rxScratch = s.rxScratch := rfl
@[simp] theorem goWorker_rxPrimary : (s.goWorker w).rxPrimary = s.rxPrimary := rfl
@[simp] theorem goWorker_rxSide : (s.goWorker w).rxSide = s.rxSide := rfl
@[simp] theorem goWorker_rxRetx : (s.goWorker w).rxRetx = s.rxRetx := rfl
@[simp] theorem goWorker_crcAcc : (s.goWorker w).crcAcc = s.crcAcc := rfl
@[simp] theorem goWorker_crcWritten : (s.goWorker w).crcWritten = s.crcWritten := rfl
@[simp] theorem goWorker_reqMsg : (s.goWorker w).reqMsg = s.reqMsg := rfl
@[simp] theorem goWorker_reqLen : (s.goWorker w).reqLen = s.reqLen := rfl
@[simp] theorem goWorker_respMsg : (s.goWorker w).respMsg = s.respMsg := rfl
@[simp] theorem goWorker_respLen : (s.goWorker w).respLen = s.respLen := rfl
@[simp] theorem goWorker_mbxBuf : (s.goWorker w).mbxBuf = s.mbxBuf := rfl
@[simp] theorem goWorker_xcvState : (s.goWorker w).xcvState = s.xcvState := rfl
@[simp] theorem goWorker_xcvErr : (s.goWorker w).xcvErr = s.xcvErr := rfl
@[simp] theorem goWorker_xcvOperand : (s.goWorker w).xcvOperand = s.xcvOperand := rfl
@[simp] theorem goWorker_xcvCaller : (s.goWorker w).xcvCaller = s.xcvCaller := rfl
@[simp] theorem goWorker_xcvReturn : (s.goWorker w).xcvReturn = s.xcvReturn := rfl
@[simp] theorem goWorker_xcvOuter : (s.goWorker w).xcvOuter = s.xcvOuter := rfl
@[simp] theorem goWorker_vars : (s.goWorker w).vars = s.vars := rfl
@[simp] theorem goWorker_readyLatch : (s.goWorker w).readyLatch = s.readyLatch := rfl
@[simp] theorem goWorker_frameSize : (s.goWorker w).frameSize = s.frameSize := rfl
@[simp] theorem goWorker_crcSize : (s.goWorker w).crcSize = s.crcSize := rfl
@[simp] theorem goWorker_speedSclk : (s.goWorker w).speedSclk = s.speedSclk := rfl
@[simp] theorem goWorker_linkOwner : (s.goWorker w).linkOwner = s.linkOwner := rfl
@[simp] theorem goWorker_fgHolder : (s.goWorker w).fgHolder = s.fgHolder := rfl
@[simp] theorem goWorker_fgIntent : (s.goWorker w).fgIntent = s.fgIntent := rfl
@[simp] theorem goWorker_fgWaiters : (s.goWorker w).fgWaiters = s.fgWaiters := rfl
@[simp] theorem goWorker_mbxLen : (s.goWorker w).mbxLen = s.mbxLen := rfl
@[simp] theorem goWorker_mbxLock : (s.goWorker w).mbxLock = s.mbxLock := rfl
@[simp] theorem goWorker_mbxInside : (s.goWorker w).mbxInside = s.mbxInside := rfl
@[simp] theorem goWorker_mbxHeld : (s.goWorker w).mbxHeld = s.mbxHeld := rfl
@[simp] theorem goWorker_transmissionErrors : (s.goWorker w).transmissionErrors = s.transmissionErrors := rfl
@[simp] theorem goWorker_notificationsReceived : (s.goWorker w).notificationsReceived = s.notificationsReceived := rfl
@[simp] theorem goWorker_notificationsFailed : (s.goWorker w).notificationsFailed = s.notificationsFailed := rfl
@[simp] theorem goWorker_descriptorFailed : (s.goWorker w).descriptorFailed = s.descriptorFailed := rfl
@[simp] theorem goWorker_connState : (s.goWorker w).connState = s.connState := rfl
@[simp] theorem goWorker_failCount : (s.goWorker w).failCount = s.failCount := rfl
@[simp] theorem goWorker_stop : (s.goWorker w).stop = s.stop := rfl
@[simp] theorem goWorker_slotId : (s.goWorker w).slotId = s.slotId := rfl
@[simp] theorem goWorker_registered : (s.goWorker w).registered = s.registered := rfl
@[simp] theorem goWorker_allocFailed : (s.goWorker w).allocFailed = s.allocFailed := rfl
@[simp] theorem goWorker_discarded : (s.goWorker w).discarded = s.discarded := rfl
@[simp] theorem goWorker_worker : (s.goWorker w).worker = w := rfl
@[simp] theorem goWorker_descCur : (s.goWorker w).descCur = s.descCur := rfl
@[simp] theorem goWorker_descPrev : (s.goWorker w).descPrev = s.descPrev := rfl
@[simp] theorem goWorker_fetch : (s.goWorker w).fetch = s.fetch := rfl
@[simp] theorem goWorker_portCls : (s.goWorker w).portCls = s.portCls := rfl
@[simp] theorem goWorker_portAgent : (s.goWorker w).portAgent = s.portAgent := rfl
@[simp] theorem goWorker_cmdData : (s.goWorker w).cmdData = s.cmdData := rfl
@[simp] theorem goWorker_answers : (s.goWorker w).answers = s.answers := rfl
@[simp] theorem goWorker_sent : (s.goWorker w).sent = s.sent := rfl
@[simp] theorem goWorker_inputs : (s.goWorker w).inputs = s.inputs := rfl
@[simp] theorem goWorker_freeCtr : (s.goWorker w).freeCtr = s.freeCtr := rfl

end goWorker

section acceptCommand

variable (s : State) (c : Command)

@[simp] theorem acceptCommand_cfg : (acceptCommand s c).cfg = s.cfg := rfl
@[simp] theorem acceptCommand_txBuf : (acceptCommand s c).txBuf = s.txBuf := rfl
@[simp] theorem acceptCommand_rxScratch : (acceptCommand s c).rxScratch = s.rxScratch := rfl
@[simp] theorem acceptCommand_rxPrimary : (acceptCommand s c).rxPrimary = s.rxPrimary := rfl
@[simp] theorem acceptCommand_rxSide : (acceptCommand s c).rxSide = s.rxSide := rfl
@[simp] theorem acceptCommand_rxRetx : (acceptCommand s c).rxRetx = s.rxRetx := rfl
@[simp] theorem acceptCommand_crcAcc : (acceptCommand s c).crcAcc = s.crcAcc := rfl
@[simp] theorem acceptCommand_crcWritten : (acceptCommand s c).crcWritten = s.crcWritten := rfl
@[simp] theorem acceptCommand_reqMsg : (acceptCommand s c).reqMsg = s.reqMsg := rfl
@[simp] theorem acceptCommand_reqLen : (acceptCommand s c).reqLen = s.reqLen := rfl
@[simp] theorem acceptCommand_respMsg : (acceptCommand s c).respMsg = s.respMsg := rfl
@[simp] theorem acceptCommand_respLen : (acceptCommand s c).respLen = s.respLen := rfl
@[simp] theorem acceptCommand_mbxBuf : (acceptCommand s c).mbxBuf = s.mbxBuf := rfl
@[simp] theorem acceptCommand_xcvState : (acceptCommand s c).xcvState = s.xcvState := rfl
@[simp] theorem acceptCommand_xcvErr : (acceptCommand s c).xcvErr = s.xcvErr := rfl
@[simp] theorem acceptCommand_xcvOperand : (acceptCommand s c).xcvOperand = s.xcvOperand := rfl
@[simp] theorem acceptCommand_xcvCaller : (acceptCommand s c).xcvCaller = s.xcvCaller := rfl
@[simp] theorem acceptCommand_xcvReturn : (acceptCommand s c).xcvReturn = s.xcvReturn := rfl
@[simp] theorem acceptCommand_xcvOuter : (acceptCommand s c).xcvOuter = s.xcvOuter := rfl
@[simp] theorem acceptCommand_vars : (acceptCommand s c).vars = s.vars := rfl
@[simp] theorem acceptCommand_readyLatch : (acceptCommand s c).readyLatch = s.readyLatch := rfl
@[simp] theorem acceptCommand_frameSize : (acceptCommand s c).frameSize = s.frameSize := rfl
@[simp] theorem acceptCommand_crcSize : (acceptCommand s c).crcSize = s.crcSize := rfl
@[simp] theorem acceptCommand_speedSclk : (acceptCommand s c).speedSclk = s.speedSclk := rfl
@[simp] theorem acceptCommand_linkOwner : (acceptCommand s c).linkOwner = s.linkOwner := rfl
@[simp] theorem acceptCommand_fgHolder : (acceptCommand s c).fgHolder = s.fgHolder := rfl
@[simp] theorem acceptCommand_fgIntent : (acceptCommand s c).fgIntent = s.fgIntent := rfl
@[simp] theorem acceptCommand_fgWaiters : (acceptCommand s c).fgWaiters = s.fgWaiters := rfl
@[simp] theorem acceptCommand_mbxLen : (acceptCommand s c).mbxLen = s.mbxLen := rfl
@[simp] theorem acceptCommand_mbxLock : (acceptCommand s c).mbxLock = s.mbxLock := rfl
@[simp] theorem acceptCommand_mbxInside : (acceptCommand s c).mbxInside = s.mbxInside := rfl
@[simp] theorem acceptCommand_mbxHeld : (acceptCommand s c).mbxHeld = s.mbxHeld := rfl
@[simp] theorem acceptCommand_transmissionErrors : (acceptCommand s c).transmissionErrors = s.transmissionErrors := rfl
@[simp] theorem acceptCommand_notificationsReceived : (acceptCommand s c).notificationsReceived = s.notificationsReceived := rfl
@[simp] theorem acceptCommand_notificationsFailed : (acceptCommand s c).notificationsFailed = s.notificationsFailed := rfl
@[simp] theorem acceptCommand_descriptorFailed : (acceptCommand s c).descriptorFailed = s.descriptorFailed := rfl
@[simp] theorem acceptCommand_connState : (acceptCommand s c).connState = s.connState := rfl
@[simp] theorem acceptCommand_failCount : (acceptCommand s c).failCount = s.failCount := rfl
@[simp] theorem acceptCommand_stop : (acceptCommand s c).stop = s.stop := rfl
@[simp] theorem acceptCommand_slotId : (acceptCommand s c).slotId = s.slotId := rfl
@[simp] theorem acceptCommand_registered : (acceptCommand s c).registered = s.registered := rfl
@[simp] theorem acceptCommand_allocFailed : (acceptCommand s c).allocFailed = s.allocFailed := rfl
@[simp] theorem acceptCommand_discarded : (acceptCommand s c).discarded = s.discarded := rfl
@[simp] theorem acceptCommand_worker : (acceptCommand s c).worker = s.worker := rfl
@[simp] theorem acceptCommand_descCur : (acceptCommand s c).descCur = s.descCur := rfl
@[simp] theorem acceptCommand_descPrev : (acceptCommand s c).descPrev = s.descPrev := rfl
@[simp] theorem acceptCommand_fetch : (acceptCommand s c).fetch = s.fetch := rfl
@[simp] theorem acceptCommand_portCls : (acceptCommand s c).portCls = c.cls := rfl
@[simp] theorem acceptCommand_portAgent : (acceptCommand s c).portAgent = c.agent := rfl
@[simp] theorem acceptCommand_cmdData : (acceptCommand s c).cmdData = c.data := rfl
@[simp] theorem acceptCommand_answers : (acceptCommand s c).answers = s.answers := rfl
@[simp] theorem acceptCommand_sent : (acceptCommand s c).sent = s.sent := rfl
@[simp] theorem acceptCommand_inputs : (acceptCommand s c).inputs = s.inputs := rfl
@[simp] theorem acceptCommand_freeCtr : (acceptCommand s c).freeCtr = s.freeCtr := rfl

end acceptCommand

end Sys2Proof.Laws
end

