-- ==== Sys2Proof/Laws/Ops.lean ====
section
/-! SUPPORT. For each shared operation, everything it can do, said once: what a proof cites instead of unfolding it. -/

namespace Sys2Proof.Laws

open Sys2Proof.Machine

variable {s t u : State} {e : Env} {i : Instr}

/-! Outcomes and preconditions. -/

theorem outcome_next {r : Res State} : outcome r = .next t ↔ r = .ok t := by
  cases r with
  | ok v => simp [outcome]
  | error x => cases x <;> simp [outcome]

theorem outcome_refused {r : Res State} {x : Refusal} : outcome r = .refused x ↔ r = .error (.refuse x) := by
  cases r with
  | ok v => simp [outcome]
  | error x => cases x <;> simp [outcome]

theorem outcome_fault {r : Res State} {x : Fault} : outcome r = .fault x ↔ r = .error (.fault x) := by
  cases r with
  | ok v => simp [outcome]
  | error x => cases x <;> simp [outcome]

theorem require_ok {p : Prop} [Decidable p] {r : Refusal} {x : Unit} : require p r = .ok x ↔ p := by
  unfold require
  split <;> simp_all

/-- A value and a continuation that answers: both answered. -/
theorem bind_ok {α β : Type} {x : Res α} {f : α → Res β} {y : β} : (x >>= f) = .ok y ↔ ∃ a, x = .ok a ∧ f a = .ok y := by
  cases x with
  | ok a => simp [bind, Except.bind]
  | error d => simp [bind, Except.bind]

theorem map_ok {α β : Type} {x : Res α} {f : α → β} {y : β} : x.map f = .ok y ↔ ∃ a, x = .ok a ∧ f a = y := by
  cases x <;> simp [Except.map]

/-! Steps. -/

/-- Everything a step that answers can be: no input left, a legal command's operation, an illegal command's answer, or an
agent's turn or input. -/
theorem step_cases (h : step s = .next t) :
    s.discarded = false ∧ s.cfg.wf = true ∧
      ((s.inputs = [] ∧ t = s) ∨
        (∃ c rest i, s.inputs = .command c :: rest ∧ decode c.word = .ok i ∧
          exec i (acceptCommand { s with inputs := rest } c) = .next t) ∨
        (∃ c rest e, s.inputs = .command c :: rest ∧ decode c.word = .error e ∧
          t = illegalCommand (acceptCommand { s with inputs := rest } c)) ∨
        ∃ x rest, s.inputs = x :: rest ∧ (∀ c, x ≠ .command c) ∧ applyInput { s with inputs := rest } x = .ok t) := by
  unfold step at h
  split at h
  · simp at h
  · next hd =>
    split at h
    · simp at h
    · next hw =>
      refine ⟨by simpa using hd, by simpa using hw, ?_⟩
      split at h
      · next hi => exact .inl ⟨hi, by simpa using h.symm⟩
      · next c rest hi =>
        split at h
        · next i hdec => exact .inr (.inl ⟨c, rest, i, hi, hdec, h⟩)
        · next er hdec => exact .inr (.inr (.inl ⟨c, rest, er, hi, hdec, by simpa using h.symm⟩))
      · next x rest hne hi => exact .inr (.inr (.inr ⟨x, rest, hi, hne, outcome_next.1 h⟩))

/-! The codec. -/

/-- What `encode` answers when it answers: the frame of the message, whose length is in both ranges. -/
theorem encodeFrame_ok {c : Config} {n : Nat} {m f : List Byte} (h : encodeFrame c n m = .ok f) :
    lengthField m ≤ c.crc16MaxLength ∧ lengthField m ≤ n - 2 ∧ f = frameOf c n m := by
  unfold encodeFrame at h
  split at h
  · simp at h
  · next hc =>
    split at h
    · simp at h
    · next hn =>
      refine ⟨?_, by omega, by simpa using h.symm⟩
      by_contra hgt
      exact hc (by simp [crcsel, hgt])

/-- Storing a frame: the frame in `tx_buf` from offset 0, `crc_size` 2, nothing else. -/
theorem storeFrame_ok {f : List Byte} (h : storeFrame s f = .ok t) :
    t = { s with txBuf := s.txBuf.write 0 f, crcSize := 2 } ∧ f.length ≤ s.cfg.maximumFrameSize := by
  unfold storeFrame at h
  obtain ⟨u, hu, rfl⟩ := map_ok.1 h
  obtain ⟨rfl, hc⟩ := memWrite_ok hu
  exact ⟨rfl, by simpa [capacity] using hc⟩

/-! The Transport and the ready latch. -/

/-- An exchange that answers: `frame_size` bytes sent from `tx_buf`, `frame_size` bytes received. -/
theorem exchange_ok {dst : BufName} {r : State × Bool} (h : exchange s e dst = .ok r) :
    ∃ tx, memRead s .tx 0 s.frameSize = .ok tx ∧ r.2 = e.transportFault ∧
      memWrite { s with sent := tx :: s.sent } dst 0 (fit s.frameSize e.rx) = .ok r.1 := by
  unfold exchange at h
  obtain ⟨tx, htx, h⟩ := bind_ok.1 h
  obtain ⟨w, hw, h⟩ := bind_ok.1 h
  refine ⟨tx, htx, ?_, ?_⟩ <;> (simp only [pure, Except.pure, Except.ok.injEq] at h; subst h)
  · rfl
  · exact hw

theorem fit_length (n : Nat) (v : List Byte) : (fit n v).length = n := by
  simp [fit]

/-- A ready wait changes the latch only, and leaves it clear. -/
theorem readyWait_state (s : State) (w : Option Nat) (a : ReadyAnswer) :
    (readyWait s w a).1 = { s with readyLatch := false } := by
  unfold readyWait
  split
  · rfl
  · next h =>
    have : s.readyLatch = false := by simpa using h
    cases s; simp_all

/-- A set latch answers `Ready`. -/
theorem readyWait_set (h : s.readyLatch = true) (w : Option Nat) (a : ReadyAnswer) : (readyWait s w a).2 = .ready := by
  simp [readyWait, h]

/-- A clear latch answers what the environment chooses. -/
theorem readyWait_clear (h : s.readyLatch = false) (w : Option Nat) (a : ReadyAnswer) :
    (readyWait s w a).2 = clearLatchAnswer w a := by
  simp [readyWait, h]

/-! The end of a transaction. -/

/-- A returned transaction changes the sequencer's state and delivers its result, to the port or to a sequencer. -/
theorem returnXchg_eq (s : State) (r : Reply) :
    s.returnXchg r =
      { s with
        xcvState := if s.xcvOuter.isSome then .s3gRefresh else .idle
        answers := match s.xcvCaller with
          | .port c a => ⟨c, a, r.status, r.data⟩ :: s.answers
          | .poller | .probe | .fetcher => s.answers
        xcvReturn := match s.xcvCaller with
          | .port _ _ => s.xcvReturn
          | .poller | .probe | .fetcher => some r } := by
  unfold State.returnXchg
  cases hc : s.xcvCaller <;> simp [State.deliver]

/-- The message of the primary frame: the bytes that its length field counts. -/
theorem primaryMessage_ok {m : List Byte} (h : primaryMessage s = .ok m) :
    ∃ hd, memRead s .rxPrimary 0 4 = .ok hd ∧ memRead s .rxPrimary 0 (lengthField hd) = .ok m := by
  obtain ⟨hd, h1, h2⟩ := bind_ok.1 h
  exact ⟨hd, h1, h2⟩

/-! The arbiter and the mailbox. -/

/-- A poller's release that answers: it owned the link, the sequencer was idle, and the link has no owner. -/
theorem releaseBg_ok (h : releaseBg s = .ok t) :
    s.linkOwner = .bg ∧ s.xcvState = .idle ∧ t = { s with linkOwner := .none } := by
  unfold releaseBg at h
  obtain ⟨_, h1, h⟩ := bind_ok.1 h
  obtain ⟨_, h2, h⟩ := bind_ok.1 h
  exact ⟨require_ok.1 h1, require_ok.1 h2, by simpa [pure, Except.pure] using h.symm⟩

/-- Everything a post can do: nothing at the sentinel, a failure counted at a full mailbox, the notification stored. -/
theorem postMailbox_ok {d : List Byte} {r : State × Status} (h : postMailbox s d = .ok r) :
    (s.mbxLen = -1 ∧ r = (s, .deviceGone)) ∨
      (0 < s.mbxLen ∧ r = ({ s with notificationsFailed := bump s.cfg s.notificationsFailed }, .mailboxFull)) ∨
      (s.mbxLen ≠ -1 ∧ s.mbxLen ≤ 0 ∧ d.length ≤ s.cfg.mbxCapacity ∧
        r = ({ s with
          mbxBuf := s.mbxBuf.write 0 d
          mbxLen := d.length
          notificationsReceived := bump s.cfg s.notificationsReceived
          mbxInside := wakeConsumer s.mbxInside }, .ok)) := by
  unfold postMailbox at h
  split at h
  · next h1 => exact .inl ⟨h1, by simpa using h.symm⟩
  · next h1 =>
    split at h
    · next h2 => exact .inr (.inl ⟨h2, by simpa using h.symm⟩)
    · next h2 =>
      obtain ⟨w, hw, h⟩ := bind_ok.1 h
      obtain ⟨rfl, hc⟩ := memWrite_ok hw
      refine .inr (.inr ⟨h1, by omega, by simpa [capacity] using hc, ?_⟩)
      simp only [pure, Except.pure, Except.ok.injEq] at h
      exact h.symm

/-- Everything one look can do. -/
theorem takeLook_ok {c : Consumer} (h : takeLook s c = .ok t) :
    (s.mbxLen = -1 ∧ t = leaveMailbox s c.agent .deviceGone []) ∨
      (0 < s.mbxLen ∧ ∃ d, memRead s .mbx 0 s.mbxLen.toNat = .ok d ∧
        t = leaveMailbox { s with mbxLen := 0 } c.agent .ok d) ∨
      (s.mbxLen ≠ -1 ∧ s.mbxLen ≤ 0 ∧ c.nb = true ∧ t = leaveMailbox s c.agent .wouldBlock []) ∨
      (s.mbxLen ≠ -1 ∧ s.mbxLen ≤ 0 ∧ c.nb = false ∧ t = { s with mbxInside := some { c with at_ := .wait } }) := by
  unfold takeLook at h
  split at h
  · next h1 => exact .inl ⟨h1, by simpa using h.symm⟩
  · next h1 =>
    split at h
    · next h2 =>
      obtain ⟨d, hd, h⟩ := bind_ok.1 h
      simp only [pure, Except.pure, Except.ok.injEq] at h
      exact .inr (.inl ⟨h2, d, hd, h.symm⟩)
    · next h2 =>
      split at h
      · next h3 => exact .inr (.inr (.inl ⟨h1, by omega, h3, by simpa using h.symm⟩))
      · next h3 => exact .inr (.inr (.inr ⟨h1, by omega, by simpa using h3, by simpa using h.symm⟩))

/-! The fetcher. -/

/-- Everything one step of a fetch can do: nothing, the publication, the reading of a result, the issue of a field's
transaction. -/
theorem fetchStep_ok {r : State × FetchEnd} (h : fetchStep s e = .ok r) :
    r = (s, .running) ∨
      ∃ st, s.fetch = some st ∧
        ((st.todo = [] ∧ r = fetchPublish s e st) ∨
          ∃ f rest, st.todo = f :: rest ∧
            ((st.awaiting = true ∧ ∃ p, s.xcvReturn = some p ∧ r = fetchTake s st f rest p) ∨
              (st.awaiting = false ∧ s.sequencerFree = true ∧ fetchIssue s st f = .ok r))) := by
  unfold fetchStep at h
  split at h
  · exact .inl (by simpa using h.symm)
  · next st hs =>
    split at h
    · next ht => exact .inr ⟨st, hs, .inl ⟨ht, by simpa using h.symm⟩⟩
    · next f rest ht =>
      split at h
      · next ha =>
        split at h
        · next p hp => exact .inr ⟨st, hs, .inr ⟨f, rest, ht, .inl ⟨ha, p, hp, by simpa using h.symm⟩⟩⟩
        · exact .inl (by simpa using h.symm)
      · next ha =>
        split at h
        · next hf => exact .inr ⟨st, hs, .inr ⟨f, rest, ht, .inr ⟨by simpa using ha, hf, h⟩⟩⟩
        · exact .inl (by simpa using h.symm)

/-- The request message of a field is one that R361 allows, under every well-formed `Config`. -/
theorem descReq_ok {c : Config} (hc : c.wf = true) (f : DescField) (i : Nat) : descReqOk c (descReq c f i) = true := by
  simp only [Config.wf, Config.sizesOk, Config.directivesOk, Config.descReqsOk, Bool.and_eq_true, decide_eq_true_eq,
    List.all_eq_true] at hc
  obtain ⟨⟨⟨⟨-, hs⟩, -⟩, ⟨-, hl⟩⟩, hk⟩ := hc
  unfold descReq
  split
  · next e he => exact hk e (List.mem_of_find?_eq_some he)
  · unfold allowedDescReq
    split
    · next h => exact h
    · have h7 : 7 ≤ c.lError := (hl c.lError (by simp)).1
      have hm : 64 ≤ c.frameSizeMin := by tauto
      have : ¬ 4 = c.lError := by omega
      simp [descReqOk, isMessage, lengthField, be16, byteAt, headerSize, matchesSomeShape, matchesShape, this]
      omega

/-- An issued field transaction: the fetcher may use the link, the sequencer starts. -/
theorem fetchIssue_ok {st : FetchState} {f : DescField} {r : State × FetchEnd} (h : fetchIssue s st f = .ok r) :
    fetcherMayUseLink s = true ∧
      r = ({ s.startXchg .fetcher (descReq s.cfg f st.chunk) with fetch := some { st with awaiting := true } },
        .running) := by
  unfold fetchIssue at h
  obtain ⟨_, h1, h⟩ := bind_ok.1 h
  exact ⟨require_ok.1 h1, by simpa [pure, Except.pure] using h.symm⟩

/-- Reading a field's result changes the pending result, the fetch in progress and the failure counter only. -/
theorem fetchTake_frame (s : State) (st : FetchState) (f : DescField) (rest : List DescField) (r : Reply) :
    ∃ n g, (fetchTake s st f rest r).1 = { s with xcvReturn := none, descriptorFailed := n, fetch := g } := by
  unfold fetchTake
  split
  · dsimp only
    split
    · exact ⟨s.descriptorFailed, _, rfl⟩
    · exact ⟨_, _, rfl⟩
  · exact ⟨_, _, rfl⟩

/-! The worker. -/

/-- Everything an allocation failure can do: on the way out of `Connected` only the position changes; from another state the
slot is `Failed`, and at most the fetch in progress and a result not yet read are dropped. -/
theorem allocFailure_cases (s : State) :
    (s.connState = .connected ∧
        allocFailure s = s.goWorker (if s.registered then .failUnregister else .failGone)) ∨
      (s.connState ≠ .connected ∧ allocFailure s = { s with
        connState := .failed
        worker := .failed
        fetch := if s.xcvOuter.isNone then none else s.fetch
        xcvReturn := if s.xcvOuter.isNone then none else s.xcvReturn }) := by
  unfold allocFailure dropSequence
  split
  · next h => exact .inl ⟨h, rfl⟩
  · next h =>
    refine .inr ⟨h, ?_⟩
    split <;> rfl

/-- All that seeing `stop` does: the worker's next position. -/
theorem beginStop_eq (s : State) :
    beginStop s = { s with worker := if s.connState = .connected then .stopUnregister else .stopGone } := by
  unfold beginStop State.goWorker; split <;> rfl

/-- All that seeing `stop` inside `CONNECT` does: the fetch and the result of the worker's own are given up as well. -/
theorem abandonConnect_eq (s : State) :
    abandonConnect s = { s with
      fetch := if s.xcvOuter.isNone then none else s.fetch
      xcvReturn := if s.xcvOuter.isNone then none else s.xcvReturn
      worker := if s.connState = .connected then .stopUnregister else .stopGone } := by
  unfold abandonConnect dropSequence; rw [beginStop_eq]; split <;> rfl

/-- A turn of the worker that answers: nothing while it is blocked, an allocation failure where one is taken, else the next
step of its sequences. -/
theorem workerStep_ok (h : workerStep s e = .ok t) :
    (workerBlocked s = true ∧ t = s) ∨
      (workerBlocked s = false ∧ s.allocFailed = true ∧ s.worker.mayFail = true ∧ t = allocFailure s) ∨
      (workerBlocked s = false ∧ (s.allocFailed = true → s.worker.mayFail = false) ∧ workerAdvance s e = .ok t) := by
  unfold workerStep at h
  split at h
  · next hb => exact .inl ⟨hb, by simpa using h.symm⟩
  · next hb =>
    split at h
    · next hf =>
      simp only [Bool.and_eq_true] at hf
      exact .inr (.inl ⟨by simpa using hb, hf.1, hf.2, by simpa using h.symm⟩)
    · next hf => exact .inr (.inr ⟨by simpa using hb, by simpa using hf, h⟩)

end Sys2Proof.Laws
end

