-- ==== Sys2Proof/Laws/Frames.lean ====
section
/-! SUPPORT. What the transceiver, the fetcher, the turns at the arbiter and the mailbox leave alone, each said once. -/

namespace Sys2Proof.Laws

open Sys2Proof.Machine

variable {s t : State} {e : Env}

/-- The registers that no step of a transaction writes. -/
structure SameOutside (s t : State) : Prop where
  cfg : t.cfg = s.cfg
  crcAcc : t.crcAcc = s.crcAcc
  crcWritten : t.crcWritten = s.crcWritten
  mbxBuf : t.mbxBuf = s.mbxBuf
  linkOwner : t.linkOwner = s.linkOwner
  fgHolder : t.fgHolder = s.fgHolder
  fgIntent : t.fgIntent = s.fgIntent
  fgWaiters : t.fgWaiters = s.fgWaiters
  mbxLen : t.mbxLen = s.mbxLen
  mbxLock : t.mbxLock = s.mbxLock
  mbxInside : t.mbxInside = s.mbxInside
  mbxHeld : t.mbxHeld = s.mbxHeld
  notificationsReceived : t.notificationsReceived = s.notificationsReceived
  notificationsFailed : t.notificationsFailed = s.notificationsFailed
  connState : t.connState = s.connState
  failCount : t.failCount = s.failCount
  stop : t.stop = s.stop
  slotId : t.slotId = s.slotId
  registered : t.registered = s.registered
  allocFailed : t.allocFailed = s.allocFailed
  discarded : t.discarded = s.discarded
  worker : t.worker = s.worker
  portCls : t.portCls = s.portCls
  portAgent : t.portAgent = s.portAgent
  cmdData : t.cmdData = s.cmdData
  inputs : t.inputs = s.inputs

theorem SameOutside.rfl' (s : State) : SameOutside s s := by constructor <;> rfl

theorem SameOutside.trans {u : State} (h : SameOutside s t) (k : SameOutside t u) : SameOutside s u := by
  constructor <;> first
    | exact k.cfg.trans h.cfg
    | exact k.crcAcc.trans h.crcAcc
    | exact k.crcWritten.trans h.crcWritten
    | exact k.mbxBuf.trans h.mbxBuf
    | exact k.linkOwner.trans h.linkOwner
    | exact k.fgHolder.trans h.fgHolder
    | exact k.fgIntent.trans h.fgIntent
    | exact k.fgWaiters.trans h.fgWaiters
    | exact k.mbxLen.trans h.mbxLen
    | exact k.mbxLock.trans h.mbxLock
    | exact k.mbxInside.trans h.mbxInside
    | exact k.mbxHeld.trans h.mbxHeld
    | exact k.notificationsReceived.trans h.notificationsReceived
    | exact k.notificationsFailed.trans h.notificationsFailed
    | exact k.connState.trans h.connState
    | exact k.failCount.trans h.failCount
    | exact k.stop.trans h.stop
    | exact k.slotId.trans h.slotId
    | exact k.registered.trans h.registered
    | exact k.allocFailed.trans h.allocFailed
    | exact k.discarded.trans h.discarded
    | exact k.worker.trans h.worker
    | exact k.portCls.trans h.portCls
    | exact k.portAgent.trans h.portAgent
    | exact k.cmdData.trans h.cmdData
    | exact k.inputs.trans h.inputs

/-- A write to a buffer other than the mailbox's. -/
theorem memWrite_outside {b : BufName} {off : Nat} {v : List Byte} (hb : b ≠ .mbx) (h : memWrite s b off v = .ok t) :
    SameOutside s t := by
  obtain ⟨rfl, -⟩ := memWrite_ok h
  cases b <;> first
    | exact absurd rfl hb
    | (constructor <;> rfl)

theorem storeFrame_outside {f : List Byte} (h : storeFrame s f = .ok t) : SameOutside s t := by
  obtain ⟨rfl, -⟩ := storeFrame_ok h
  constructor <;> rfl

theorem exchange_outside {dst : BufName} {r : State × Bool} (hb : dst ≠ .mbx) (h : exchange s e dst = .ok r) :
    SameOutside s r.1 := by
  obtain ⟨tx, -, -, hw⟩ := exchange_ok h
  have := memWrite_outside hb hw
  exact .trans (by constructor <;> rfl) this

theorem returnXchg_outside (s : State) (r : Reply) : SameOutside s (s.returnXchg r) := by
  rw [returnXchg_eq]
  constructor <;> rfl

theorem readyWait_outside (s : State) (w : Option Nat) (a : ReadyAnswer) : SameOutside s (readyWait s w a).1 := by
  rw [readyWait_state]
  constructor <;> rfl

theorem fetchTake_outside (s : State) (st : FetchState) (f : DescField) (rest : List DescField) (r : Reply) :
    SameOutside s (fetchTake s st f rest r).1 := by
  obtain ⟨n, g, h⟩ := fetchTake_frame s st f rest r
  rw [h]
  constructor <;> rfl

theorem fetchStep_outside {r : State × FetchEnd} (h : fetchStep s e = .ok r) : SameOutside s r.1 := by
  rcases fetchStep_ok h with rfl | ⟨st, -, ⟨-, rfl⟩ | ⟨f, rest, -, ⟨-, p, -, rfl⟩ | ⟨-, -, h⟩⟩⟩
  · exact .rfl' s
  · constructor <;> rfl
  · exact fetchTake_outside ..
  · obtain ⟨-, rfl⟩ := fetchIssue_ok h
    constructor <;> rfl

theorem endRefresh_outside (s : State) : SameOutside s (endRefresh s) := by
  unfold endRefresh
  split
  · exact .rfl' s
  · constructor <;> rfl

theorem afterExchange_outside {next : State → State} {r : State × Bool} (hn : ∀ u, SameOutside u (next u)) :
    SameOutside r.1 (afterExchange next r) := by
  unfold afterExchange
  split
  split
  · constructor <;> rfl
  · exact hn _

/-- A step of the transceiver writes none of these registers. -/
theorem xcvStep_outside (h : xcvStep s e = .ok t) : SameOutside s t := by
  unfold xcvStep at h
  split at h
  · cases h; exact .rfl' s
  · unfold xcvS1Check at h
    split at h
    · cases h; constructor <;> rfl
    · obtain ⟨u, hu, h⟩ := bind_ok.1 h
      cases h
      exact .trans (memWrite_outside (by decide) hu) (by constructor <;> rfl)
  · unfold xcvS2Send at h
    obtain ⟨m, -, h⟩ := bind_ok.1 h
    split at h
    · cases h; constructor <;> rfl
    · obtain ⟨u, hu, h⟩ := bind_ok.1 h
      obtain ⟨r, hr, h⟩ := bind_ok.1 h
      cases h
      exact .trans (storeFrame_outside hu) (.trans (t := readyClear u) (by constructor <;> rfl)
        (.trans (exchange_outside (by decide) hr) (afterExchange_outside fun _ => by constructor <;> rfl)))
  · cases h
    unfold xcvS3aWait
    have := readyWait_outside s (some s.vars.timeoutMs) e.ready
    split <;> next hw => rw [hw] at this; exact .trans this (by constructor <;> rfl)
  · unfold xcvS3bPoll at h
    split at h
    · obtain ⟨f, -, h⟩ := bind_ok.1 h
      obtain ⟨u, hu, h⟩ := bind_ok.1 h
      cases h
      exact .trans (memWrite_outside (by decide) hu) (by constructor <;> rfl)
    · split at h
      · cases h; constructor <;> rfl
      · obtain ⟨u, hu, h⟩ := bind_ok.1 h
        obtain ⟨r, hr, h⟩ := bind_ok.1 h
        cases h
        exact .trans (storeFrame_outside hu)
          (.trans (exchange_outside (by decide) hr) (afterExchange_outside fun _ => by constructor <;> rfl))
  · cases h
    unfold xcvS3bSidewait
    have := readyWait_outside s (some s.cfg.tSideMs) e.ready
    split <;> next hw => rw [hw] at this; exact .trans this (by constructor <;> rfl)
  · unfold xcvS3bSide at h
    obtain ⟨r, hr, h⟩ := bind_ok.1 h
    split at h
    · cases h; exact .trans (exchange_outside (by decide) hr) (by constructor <;> rfl)
    · obtain ⟨f, -, h⟩ := bind_ok.1 h
      cases h
      exact .trans (exchange_outside (by decide) hr) (by constructor <;> rfl)
  · unfold xcvS3cValidate at h
    obtain ⟨f, -, h⟩ := bind_ok.1 h
    split at h
    · cases h; constructor <;> rfl
    · split at h <;> cases h <;> (constructor <;> rfl)
  · unfold xcvS3dAck at h
    split at h
    · cases h; constructor <;> rfl
    · obtain ⟨f, -, h⟩ := bind_ok.1 h
      split at h
      · split at h <;> cases h <;> (constructor <;> rfl)
      · cases h; constructor <;> rfl
  · unfold xcvS3eType at h
    obtain ⟨m, -, h⟩ := bind_ok.1 h
    split at h
    · split at h <;> cases h <;> (constructor <;> rfl)
    · cases h; constructor <;> rfl
  · unfold xcvS3fWaitdir at h
    obtain ⟨m, -, h⟩ := bind_ok.1 h
    split at h <;> cases h <;> (constructor <;> rfl)
  · unfold xcvS3gApply at h
    obtain ⟨m, -, h⟩ := bind_ok.1 h
    split at h <;> cases h <;> (constructor <;> rfl)
  · unfold xcvS3gRefresh at h
    obtain ⟨r, hr, h⟩ := bind_ok.1 h
    have hf := fetchStep_outside hr
    split at h <;> cases h
    · exact hf
    · exact .trans hf (.trans (endRefresh_outside r.1) (by constructor <;> rfl))
    · exact .trans hf (.trans (endRefresh_outside r.1) (by constructor <;> rfl))
  · unfold xcvRetx at h
    dsimp only at h
    split at h
    · obtain ⟨r, hr, h⟩ := bind_ok.1 h
      cases h
      exact .trans (.trans (by constructor <;> rfl) (exchange_outside (by decide) hr))
        (afterExchange_outside fun _ => by constructor <;> rfl)
    · cases h; constructor <;> rfl
  · unfold xcvDone at h
    obtain ⟨m, -, h⟩ := bind_ok.1 h
    obtain ⟨u, hu, h⟩ := bind_ok.1 h
    cases h
    exact .trans (memWrite_outside (by decide) hu) (.trans (by constructor <;> rfl) (returnXchg_outside _ _))
  · cases h
    exact .trans (by constructor <;> rfl) (returnXchg_outside _ _)

/-- A turn at the arbiter writes the owner, the holder, the intents, the waiting requesters and the answers only. -/
theorem fgTurn_frame (s : State) (a : Nat) :
    fgTurn s a = { s with
      linkOwner := (fgTurn s a).linkOwner
      fgHolder := (fgTurn s a).fgHolder
      fgIntent := (fgTurn s a).fgIntent
      fgWaiters := (fgTurn s a).fgWaiters
      answers := (fgTurn s a).answers } := by
  unfold fgTurn
  repeat' split
  all_goals rfl

/-- A consumer's turn writes the mailbox's length, lock and consumers and the answers only. -/
theorem consumerTurn_frame {a : Nat} (h : consumerTurn s a = .ok t) :
    t = { s with
      mbxLen := t.mbxLen
      mbxLock := t.mbxLock
      mbxInside := t.mbxInside
      mbxHeld := t.mbxHeld
      answers := t.answers } := by
  unfold consumerTurn at h
  split at h
  · split at h
    · rcases takeLook_ok h with ⟨-, rfl⟩ | ⟨-, d, -, rfl⟩ | ⟨-, -, -, rfl⟩ | ⟨-, -, -, rfl⟩ <;> rfl
    · cases h; rfl
  · split at h <;> cases h <;> rfl

end Sys2Proof.Laws
end

