-- ==== Sys2Proof/Laws/PerInstr.lean ====
section
/-! SUPPORT. Statements about every instruction as syntax, one lemma per constructor. -/

namespace Sys2Proof.Laws.RowMatch

/-- The word an instruction is encoded as belongs to the instruction's row of the opcode table (R121), and to no other. -/
def Statement (i : Instr) : Prop := ∀ r ∈ opcodeTable, r.holds (encode i) = true ↔ r = rowOf i

theorem crcClr : Statement .crcClr := by unfold Statement; decide

theorem crcByte (bb : Byte) : Statement (.crcByte bb) := by
  revert bb; unfold Statement; decide +kernel

theorem crcRd : Statement .crcRd := by unfold Statement; decide

theorem frmEnc : Statement .frmEnc := by unfold Statement; decide

theorem frmVal : Statement .frmVal := by unfold Statement; decide

theorem frmDec : Statement .frmDec := by unfold Statement; decide

theorem xcvXchg : Statement .xcvXchg := by unfold Statement; decide

theorem arbAcqFg (nb : Bool) : Statement (.arbAcqFg nb) := by
  cases nb <;> (unfold Statement; decide)

theorem arbRelFg : Statement .arbRelFg := by unfold Statement; decide

theorem arbAcqBg : Statement .arbAcqBg := by unfold Statement; decide

theorem arbRelBg : Statement .arbRelBg := by unfold Statement; decide

theorem mbxClr : Statement .mbxClr := by unfold Statement; decide

theorem mbxPost : Statement .mbxPost := by unfold Statement; decide

theorem mbxTake (nb : Bool) : Statement (.mbxTake nb) := by
  cases nb <;> (unfold Statement; decide)

theorem mbxGone : Statement .mbxGone := by unfold Statement; decide

theorem lnkRst : Statement .lnkRst := by unfold Statement; decide

theorem statClr : Statement .statClr := by unfold Statement; decide

theorem statRd (k : Counter) : Statement (.statRd k) := by
  cases k <;> (unfold Statement; decide)

end Sys2Proof.Laws.RowMatch
end

