-- ==== Sys2Proof/Laws/System.lean ====
section
/-! SUPPORT. What the mapping of a system of slots does (R441): a replaced slot is read back, every other slot and every id
stands. -/

namespace Sys2Proof.Laws

open Sys2Proof.Machine

/-- The slot that was replaced, where the id names one. -/
theorem slot_setSlot_self {y : System} {id : Nat} {s : State} (t : State) (h : y.slot id = some s) :
    (y.setSlot id t).slot id = some t := by
  induction y with
  | nil => cases h
  | cons p rest ih =>
    obtain ⟨k, u⟩ := p
    by_cases hk : k = id
    · simp [System.setSlot, System.slot, hk]
    · simp only [System.slot, if_neg hk] at h
      simpa [System.setSlot, System.slot, hk] using ih h

/-- Every other slot. -/
theorem slot_setSlot_of_ne {id k : Nat} (y : System) (t : State) (h : k ≠ id) : (y.setSlot id t).slot k = y.slot k := by
  induction y with
  | nil => rfl
  | cons p rest ih =>
    obtain ⟨j, u⟩ := p
    by_cases hj : j = id
    · simp [System.setSlot, System.slot, hj, Ne.symm h]
    · by_cases hk : j = k <;> simp [System.setSlot, System.slot, hj, hk, ih]
      simp [System.slot, hk ▸ hj]

@[simp] theorem setSlot_ids (y : System) (id : Nat) (t : State) : (y.setSlot id t).ids = y.ids := by
  induction y with
  | nil => rfl
  | cons p rest ih =>
    obtain ⟨k, u⟩ := p
    by_cases hk : k = id
    · simp [System.setSlot, System.ids, hk]
    · simpa [System.setSlot, System.ids, hk] using ih

/-- A step of the system is a step of the slot that the id names, or nothing. -/
theorem stepSlot_next {y z : System} {id : Nat} (h : System.stepSlot y id = .next z) :
    (y.slot id = none ∧ z = y) ∨ ∃ s t, y.slot id = some s ∧ step s = .next t ∧ z = y.setSlot id t := by
  unfold System.stepSlot at h
  split at h
  · exact .inl ⟨‹_›, by cases h; rfl⟩
  · split at h <;> cases h
    exact .inr ⟨_, _, ‹_›, ‹_›, rfl⟩

end Sys2Proof.Laws
end

