-- ==== Sys2Proof/Tests/Slice0.lean ====
section
/-! SUPPORT. Small tests: words written out from the table of R121, ill-formed terms refused, vectors of
spec/95_test_vectors.md (each named in its comment), and for every statement with hypotheses a state that meets them. -/

set_option Elab.async false

namespace Sys2Proof.Tests

open Sys2Proof.Machine

/-! Reading an outcome. -/

/-- A field of the next state, where there is one. -/
def nextField {α : Type} (f : State → α) : Host.Outcome State Fault Refusal → Option α
  | .next t => some (f t)
  | .fault _ => none
  | .refused _ => none

/-- The refusal, where there is one. -/
def refusalOf : Host.Outcome State Fault Refusal → Option Refusal
  | .refused r => some r
  | .next _ => none
  | .fault _ => none

/-- The last answer of a state: its status and bytes. -/
def lastAnswer (s : State) : Option (Status × List Byte) := s.answers.head?.map fun a => (a.status, a.data)

/-- The first of a run's outcomes read by a field. -/
def resField {α : Type} (f : State → α) : Machine.Res State → Option α
  | .ok t => some (f t)
  | .error _ => none

/-! Words written out from the table of R121. -/

theorem test_word_crc : decode 0x1000 = .ok .crcClr ∧ decode 0x11FF = .ok (.crcByte 0xFF) ∧ decode 0x1200 = .ok .crcRd := by
  decide +kernel

theorem test_word_frm : decode 0x2000 = .ok .frmEnc ∧ decode 0x2100 = .ok .frmVal ∧ decode 0x2200 = .ok .frmDec := by
  decide +kernel

theorem test_word_xcv : decode 0x3000 = .ok .xcvXchg := by decide +kernel

theorem test_word_arb :
    decode 0x4000 = .ok (.arbAcqFg false) ∧ decode 0x4001 = .ok (.arbAcqFg true) ∧ decode 0x4100 = .ok .arbRelFg ∧
      decode 0x4200 = .ok .arbAcqBg ∧ decode 0x4300 = .ok .arbRelBg := by
  decide +kernel

theorem test_word_mbx :
    decode 0x5000 = .ok .mbxClr ∧ decode 0x5100 = .ok .mbxPost ∧ decode 0x5200 = .ok (.mbxTake false) ∧
      decode 0x5201 = .ok (.mbxTake true) ∧ decode 0x5300 = .ok .mbxGone := by
  decide +kernel

theorem test_word_lnk_stat :
    decode 0x6000 = .ok .lnkRst ∧ decode 0x7000 = .ok .statClr ∧ decode 0x7100 = .ok (.statRd .transmissionErrors) ∧
      decode 0x7101 = .ok (.statRd .notificationsReceived) ∧ decode 0x7102 = .ok (.statRd .notificationsFailed) ∧
      decode 0x7103 = .ok (.statRd .descriptorFailed) := by
  decide +kernel

/-- R122: undefined units, functions not listed, `imm` bits where the mask requires zero. -/
theorem test_word_illegal :
    decode 0x0000 = .error .undefinedUnit ∧ decode 0x8000 = .error .undefinedUnit ∧
      decode 0xFFFF = .error .undefinedUnit ∧ decode 0x1300 = .error .undefinedFn ∧
      decode 0x3100 = .error .undefinedFn ∧ decode 0x7200 = .error .undefinedFn ∧
      decode 0x1001 = .error .nonzeroImm ∧ decode 0x4002 = .error .nonzeroImm ∧
      decode 0x5210 = .error .nonzeroImm ∧ decode 0x7104 = .error .nonzeroImm := by
  decide +kernel

theorem test_table_word : decodeTableWord 16 0x7103 = some (.statRd .descriptorFailed) ∧ decodeTableWord 16 0x0000 = none := by
  decide +kernel

/-! Well-formedness: REFCFG is, and a record that breaks one constraint is not. -/

theorem test_refcfg_wf : refcfg.wf = true := by decide +kernel

theorem test_illformed_sizes :
    ({ refcfg with crcRefin := true } : Config).wf = false ∧ ({ refcfg with maximumFrameSize := 65536 } : Config).wf = false ∧
      ({ refcfg with maximumFrameSize := 63 } : Config).wf = false ∧ ({ refcfg with frameSizeMin := 63 } : Config).wf = false ∧
      ({ refcfg with frameSizeMin := 65 } : Config).wf = false ∧
      ({ refcfg with frameSizeDefault := 1025 } : Config).wf = false ∧
      ({ refcfg with speedDefaultHz := 99999 } : Config).wf = false ∧
      ({ refcfg with crc16MaxLength := 3 } : Config).wf = false := by
  decide +kernel

theorem test_illformed_fixed :
    ({ refcfg with crcWidth := 32 } : Config).wf = false ∧ ({ refcfg with crcSizeDefault := 4 } : Config).wf = false ∧
      ({ refcfg with crcSizeReserved := 2 } : Config).wf = false ∧ ({ refcfg with headerSize := 5 } : Config).wf = false := by
  decide +kernel

theorem test_illformed_counts :
    ({ refcfg with debounceSamples := 0 } : Config).wf = false ∧ ({ refcfg with ctrWidth := 0 } : Config).wf = false ∧
      ({ refcfg with resyncRetries := 0 } : Config).wf = false := by
  decide +kernel

theorem test_illformed_codes :
    ({ refcfg with mtAck := 0x02 } : Config).wf = false ∧ ({ refcfg with optNotifPending := 0x03 } : Config).wf = false ∧
      ({ refcfg with optNotifPending := 0 } : Config).wf = false ∧
      ({ refcfg with pollMsg := [4, 0, 5, 0] } : Config).wf = false ∧
      ({ refcfg with notifReqMsg := [3, 0, 4] } : Config).wf = false := by
  decide +kernel

theorem test_illformed_directives :
    ({ refcfg with tSpeed := ⟨1, 4, 7⟩ } : Config).wf = false ∧ ({ refcfg with subMode := 1 } : Config).wf = false ∧
      ({ refcfg with lWait := 10 } : Config).wf = false ∧ ({ refcfg with lFsizeCfm := 63 } : Config).wf = false ∧
      ({ refcfg with lError := 6 } : Config).wf = false ∧ ({ refcfg with lDescReq := 63 } : Config).wf = false := by
  decide +kernel

/-- R361: a known request that matches a directive, and one with a wrong length field, are refused. -/
theorem test_illformed_requests :
    ({ refcfg with descReqKnown := [(.serial, 0, [1, 0, 7, 0, 1, 5, 0])] } : Config).wf = false ∧
      ({ refcfg with descReqKnown := [(.serial, 0, [1, 0, 9, 0, 9, 9, 9])] } : Config).wf = false ∧
      ({ refcfg with descReqKnown := [(.serial, 0, [1, 0, 7, 0, 9, 9, 9])] } : Config).wf = true := by
  decide +kernel

/-- R250: a length below 7 with a value field is admitted; no message of that length matches (log 40). -/
theorem test_short_directive :
    ({ refcfg with valueOffset := 2, lWait := 6 } : Config).wf = true ∧
      ({ refcfg with valueOffset := 3, lWait := 6 } : Config).wf = false ∧
      matchesShape ⟨1, 1, 0⟩ 6 [2, 0, 6, 0, 1, 1] = false := by
  decide +kernel

theorem test_illformed_operands :
    Instr.operandWf refcfg 64 [1, 0, 8, 0, 1] .frmEnc = false ∧ Instr.operandWf refcfg 64 [1, 0, 3] .xcvXchg = false ∧
      Instr.operandWf refcfg 64 (List.replicate 63 0) .frmVal = false ∧
      Instr.operandWf refcfg 64 (List.replicate 65 0) .frmDec = false ∧
      Instr.operandWf refcfg 64 [] .mbxPost = false ∧
      Instr.operandWf refcfg 64 (List.replicate 1023 0) .mbxPost = false ∧
      Instr.operandWf refcfg 64 (List.replicate 1022 0) .mbxPost = true := by
  decide +kernel

/-! States of the tests. -/

/-- A connected slot, the worker in its poll loop. -/
def conn : State := { State.reset with connState := .connected, worker := .pollWait, registered := true }

/-- A slot in `Initiating`, a worker command at the port. -/
def initiating : State := { State.reset with connState := .initiating, worker := .connMailbox, portCls := .worker }

/-- A connected slot whose foreground requester 0 owns the link. -/
def owned : State := { conn with linkOwner := .fg, fgIntent := 1 }

/-- The message of V10. -/
def msgV10 : List Byte := [0x01, 0x00, 0x07, 0x00, 0xAA, 0xBB, 0xCC]

/-- The frame of V10. -/
def frameV10 : List Byte := msgV10 ++ List.replicate 55 0 ++ [0x84, 0xFA]

/-- The request of T1. -/
def reqT1 : List Byte := [0x01, 0x00, 0x07, 0x00, 0x10, 0x20, 0x30]

/-- The poll frame of V11. -/
def pollFrame : List Byte := [0x04, 0x00, 0x04, 0x00] ++ List.replicate 58 0 ++ [0xFB, 0xF4]

/-- RESP of section 5. -/
def respFrame : List Byte := [0x02, 0x00, 0x06, 0x00, 0xDE, 0xAD] ++ List.replicate 56 0 ++ [0xD1, 0x66]

/-- IDLE of section 5. -/
def idleFrame : List Byte := [0x02, 0x00, 0x04, 0x00] ++ List.replicate 58 0 ++ [0xF3, 0x1D]

/-- BAD of section 5: RESP with byte 5 changed. -/
def badFrame : List Byte := [0x02, 0x00, 0x06, 0x00, 0xDE, 0xAC] ++ List.replicate 56 0 ++ [0xD1, 0x66]

/-- A descriptor that T12 to T15 assume visible. -/
def descT12 : Descriptor := { maxSclkSpeed := 8000, maxFrameSize := 256, rid := 7, valid := true }

/-- A transaction of the foreground owner at a sequencer state, with these bytes in the transmit and receive buffers. -/
def atStep (x : XcvState) (tx rx : List Byte) : State :=
  { owned with
    xcvState := x
    xcvOperand := reqT1
    txBuf := cellsFrom 0 tx
    rxPrimary := cellsFrom 0 rx
    rxSide := cellsFrom 0 rx
    rxRetx := cellsFrom 0 rx
    reqMsg := cellsFrom 0 reqT1
    reqLen := 7 }

/-! The CRC unit. -/

/-- R152: corner entries and one entry of each quarter of the table. -/
theorem test_crc_table :
    crcTable 0x1021 0x00 = 0x0000 ∧ crcTable 0x1021 0x01 = 0x1021 ∧ crcTable 0x1021 0x02 = 0x2042 ∧
      crcTable 0x1021 0x4F = 0xB92B ∧ crcTable 0x1021 0x80 = 0x9188 ∧ crcTable 0x1021 0xCE = 0x3882 ∧
      crcTable 0x1021 0xFF = 0x1EF0 := by
  decide +kernel

/-- V1, V2, V3, V5, V8. -/
theorem test_crc_vectors :
    crc16 refcfg [] = 0xFFFF ∧ crc16 refcfg [0x31, 0x32, 0x33, 0x34, 0x35, 0x36, 0x37, 0x38, 0x39] = 0x29B1 ∧
      crc16 refcfg [0] = 0xE1F0 ∧ crc16 refcfg [0, 0] = 0x1D0F ∧
      crc16 refcfg [0x31, 0x32, 0x33, 0x34, 0x35, 0x36, 0x37, 0x38, 0x39, 0x29, 0xB1] = 0 := by
  decide +kernel

/-- Section 2: the reflected variants KERMIT and X-25. -/
theorem test_crc_reflected :
    crc16 { refcfg with crcInit := 0, crcRefin := true, crcRefout := true }
        [0x31, 0x32, 0x33, 0x34, 0x35, 0x36, 0x37, 0x38, 0x39] = 0x2189 ∧
      crc16 { refcfg with crcXorout := 0xFFFF, crcRefin := true, crcRefout := true }
        [0x31, 0x32, 0x33, 0x34, 0x35, 0x36, 0x37, 0x38, 0x39] = 0x906E := by
  decide +kernel

/-- V1. -/
theorem test_crc_clr : nextField State.crcAcc (exec .crcClr State.reset) = some 0xFFFF := by decide +kernel

/-- V2, its first line. -/
theorem test_crc_byte :
    nextField State.crcAcc (exec (.crcByte 0x31) { State.reset with crcAcc := 0xFFFF, crcWritten := true }) = some 0xC782 := by
  decide +kernel

/-- V9: refused before the first `CRC.CLR`. -/
theorem test_crc_byte_refused : refusalOf (exec (.crcByte 0x31) State.reset) = some .crcUnwritten := by decide +kernel

/-- V9. -/
theorem test_crc_rd :
    nextField lastAnswer (exec .crcRd { State.reset with crcAcc := 0xC782, crcWritten := true })
      = some (some (.ok, [0xC7, 0x82])) := by
  decide +kernel

/-- V7: `CRC.BLK "A"`. -/
theorem test_crc_blk : nextField lastAnswer (execAll (crcBlk [0x41]) State.reset) = some (some (.ok, [0xB9, 0x15])) := by
  decide +kernel

/-! The codec. -/

/-- V10. -/
theorem test_frm_enc :
    nextField lastAnswer (exec .frmEnc { State.reset with cmdData := msgV10 }) = some (some (.ok, frameV10)) := by
  decide +kernel

/-- V14 and V15: `FrameTooLarge`, and `NotSupported` first. -/
theorem test_frm_enc_errors :
    nextField lastAnswer (exec .frmEnc { State.reset with cmdData := [1, 0, 63, 0] ++ List.replicate 59 0 })
        = some (some (.frameTooLarge, [])) ∧
      nextField lastAnswer
        (exec .frmEnc { State.reset with cfg := { refcfg with crc16MaxLength := 40 }, cmdData := [1, 0, 63, 0] ++ List.replicate 59 0 })
        = some (some (.notSupported, [])) := by
  decide +kernel

/-- V18 and V20. -/
theorem test_frm_val :
    validateFrame refcfg 64 frameV10 = .ok ∧ validateFrame refcfg 64 (frameV10.set 5 0xBA) = .crcMismatch ∧
      validateFrame refcfg 64 ([0x02, 0x00, 0x03, 0x00] ++ List.replicate 58 0 ++ [0xE3, 0x93]) = .lengthInvalid ∧
      validateFrame refcfg 64 ([0x02, 0x00, 0x3E, 0x00] ++ List.replicate 58 0 ++ [0x11, 0xD2]) = .ok := by
  decide +kernel

/-- V10 and V19. -/
theorem test_frm_dec :
    nextField lastAnswer (exec .frmDec { State.reset with cmdData := frameV10 }) = some (some (.ok, msgV10)) ∧
      refusalOf (exec .frmVal { State.reset with cmdData := List.replicate 63 0 }) = some .operandSize := by
  decide +kernel

/-! The transceiver. -/

theorem test_xchg_accepted :
    nextField State.xcvState (exec .xcvXchg { owned with cmdData := reqT1 }) = some .s1Check := by decide +kernel

/-- A8: refused of a foreground agent that does not hold the link. -/
theorem test_xchg_refused : refusalOf (exec .xcvXchg { conn with cmdData := reqT1 }) = some .linkNotHeld := by decide +kernel

/-- T1, step 2: the request frame is sent. -/
theorem test_step_two :
    resField (fun t => (t.xcvState, t.sent)) (xcvStep { atStep .s2Send [] [] with readyLatch := true } {})
      = some (.s3aWait, [[0x01, 0x00, 0x07, 0x00, 0x10, 0x20, 0x30] ++ List.replicate 55 0 ++ [0x7D, 0x2E]]) := by
  decide +kernel

/-- T3: a bad primary frame with the retransmit used. -/
theorem test_corrupt :
    resField (fun t => (t.xcvState, t.xcvErr))
        (xcvStep { atStep .s3cValidate pollFrame badFrame with vars := { LoopVars.resetWith refcfg with retxUsed := true } } {})
      = some (.fail, .corruptResponse) := by
  decide +kernel

/-- T7: the Wait directive of 5 000 000 us. -/
theorem test_wait_directive :
    resField (fun t => (t.xcvState, t.vars.timeoutMs))
        (xcvStep (atStep .s3fWaitdir [] [0x02, 0x00, 0x0B, 0x00, 0x01, 0x01, 0x00, 0x00, 0x4C, 0x4B, 0x40]) {})
      = some (.s3aWait, 5000) := by
  decide +kernel

/-- T8: the timed edge, 1200 ms after the wait starts, against 5000 and 250 ms. -/
theorem test_timed_edge :
    resField State.xcvState
        (xcvStep { atStep .s3aWait [] [] with vars := { LoopVars.resetWith refcfg with timeoutMs := 5000 } } { ready := .edgeAfter 1200 })
        = some .s3bPoll ∧
      resField State.xcvState (xcvStep (atStep .s3aWait [] []) { ready := .edgeAfter 1200 }) = some .fail := by
  decide +kernel

/-- T9: sub-code 03 is `FrameCrc`, sub-code 07 no error. -/
theorem test_txn_error :
    txnError refcfg [0x02, 0x00, 0x07, 0x00, 0x01, 0x02, 0x03] = some .frameCrc ∧
      txnError refcfg [0x02, 0x00, 0x07, 0x00, 0x01, 0x02, 0x07] = none ∧
      txnError refcfg [0x02, 0x00, 0x08, 0x00, 0x01, 0x02, 0x03, 0x00] = none := by
  decide +kernel

/-- T12, T13: 8000 kHz is latched, 8001 is not, nothing without a visible descriptor. -/
theorem test_latch_speed :
    (latchDirective { State.reset with descCur := descT12 }
        [0x01, 0x00, 0x0B, 0x00, 0x01, 0x03, 0x00, 0x00, 0x00, 0x1F, 0x40]).pendingSpeedKhz = some 8000 ∧
      (latchDirective { State.reset with descCur := descT12 }
        [0x01, 0x00, 0x0B, 0x00, 0x01, 0x03, 0x00, 0x00, 0x00, 0x1F, 0x41]).pendingSpeedKhz = none ∧
      (latchDirective State.reset
        [0x01, 0x00, 0x0B, 0x00, 0x01, 0x03, 0x00, 0x00, 0x00, 0x1F, 0x40]).pendingSpeedKhz = none := by
  decide +kernel

/-- T14: the confirmation applies 256. -/
theorem test_confirm_fsize :
    resField (fun t => (t.xcvState, t.frameSize))
        (xcvStep { atStep .s3gApply [] [0x02, 0x00, 0x0B, 0x00, 0x01, 0x04, 0x00, 0x00, 0x00, 0x00, 0x00] with
          vars := { LoopVars.resetWith refcfg with pendingFrameSize := some 256 } } {})
      = some (.done, 256) := by
  decide +kernel

/-! The arbiter. -/

/-- A1. -/
theorem test_acq_fg :
    nextField (fun t => (t.linkOwner, t.fgIntent, t.writeCount)) (exec (.arbAcqFg false) conn) = some (.fg, 1, 0) := by
  decide +kernel

/-- A2. -/
theorem test_acq_fg_busy :
    nextField (fun t => (lastAnswer t, t.fgIntent)) (exec (.arbAcqFg true) { conn with linkOwner := .bg })
      = some (some (.busy, []), 0) := by
  decide +kernel

/-- The example of R287. -/
theorem test_rel_fg :
    nextField (fun t => (t.linkOwner, t.fgIntent)) (exec .arbRelFg { owned with fgIntent := 2, fgWaiters := [⟨1, false⟩] })
      = some (.none, 1) := by
  decide +kernel

/-- A6. -/
theorem test_acq_bg :
    nextField lastAnswer (exec .arbAcqBg { conn with portCls := .bg, fgIntent := 1 }) = some (some (.busy, [])) ∧
      nextField State.linkOwner (exec .arbAcqBg { conn with portCls := .bg }) = some .bg := by
  decide +kernel

/-- R433: no requester and no consumer calls into a connected slot that is not registered. -/
theorem test_not_registered :
    refusalOf (exec (.arbAcqFg false) { conn with registered := false }) = some .notRegistered ∧
      refusalOf (exec (.mbxTake false) { conn with registered := false, portCls := .consumer }) = some .notRegistered := by
  decide +kernel

/-- R84 (a): the worker's transaction is refused while a foreground requester still holds the link. -/
theorem test_worker_xchg_busy :
    refusalOf (exec .xcvXchg { initiating with linkOwner := .fg, fgIntent := 1, cmdData := reqT1 }) = some .linkBusy := by
  decide +kernel

theorem test_rel_bg :
    nextField State.linkOwner (exec .arbRelBg { conn with portCls := .bg, linkOwner := .bg }) = some .none := by decide +kernel

/-! The mailbox. -/

/-- M1. -/
theorem test_post :
    nextField (fun t => (t.mbxLen, t.notificationsReceived, t.mbxBuf.read 0 6))
        (exec .mbxPost { conn with portCls := .bg, cmdData := [0x02, 0x00, 0x06, 0x00, 0x11, 0x22] })
      = some (6, 1, some [0x02, 0x00, 0x06, 0x00, 0x11, 0x22]) := by
  decide +kernel

/-- M2. -/
theorem test_post_full :
    nextField (fun t => (lastAnswer t, t.mbxLen, t.notificationsFailed))
        (exec .mbxPost { conn with portCls := .bg, mbxLen := 6, cmdData := [0x02, 0x00, 0x05, 0x00, 0x33] })
      = some (some (.mailboxFull, []), 6, 1) := by
  decide +kernel

/-- M3: the look consumes. -/
theorem test_take :
    nextField State.mbxLock (exec (.mbxTake false) { conn with portCls := .consumer }) = some true ∧
      resField (fun t => (lastAnswer t, t.mbxLen, t.mbxLock))
        (consumerTurn { conn with
          mbxLock := true
          mbxInside := some ⟨0, false, .look⟩
          mbxLen := 2
          mbxBuf := [(0, 0x11), (1, 0x22)] } 0)
        = some (some (.ok, [0x11, 0x22]), 0, false) := by
  decide +kernel

/-- M8. -/
theorem test_take_contention :
    nextField lastAnswer (exec (.mbxTake true) { conn with portCls := .consumer, mbxLock := true, mbxInside := some ⟨9, false, .wait⟩ })
      = some (some (.wouldBlock, [])) := by
  decide +kernel

theorem test_mbx_clr : nextField State.mbxLen (exec .mbxClr { initiating with mbxLen := -1 }) = some 0 := by decide +kernel

/-- R312, R319: `MBX.CLR` waits for the consumer woken by the sentinel, which leaves with `DeviceGone`. -/
theorem test_mbx_clr_waits :
    resField (fun t => (t.mbxLen, t.worker))
        (workerStep { initiating with mbxLen := -1, mbxLock := true, mbxInside := some ⟨7, false, .look⟩ } {})
        = some (-1, .connMailbox) ∧
      resField (fun t => (t.mbxLen, t.worker)) (workerStep { initiating with mbxLen := -1 } {}) = some (0, .connFetch) := by
  decide +kernel

/-- M6. -/
theorem test_mbx_gone : nextField State.mbxLen (exec .mbxGone { conn with portCls := .worker, mbxLen := 6 }) = some (-1) := by
  decide +kernel

/-! Housekeeping. -/

/-- The example of R340. -/
theorem test_lnk_rst :
    nextField (fun t => (t.frameSize, t.speedSclk)) (exec .lnkRst { initiating with frameSize := 256, speedSclk := 8000000 })
      = some (64, 100000) := by
  decide +kernel

theorem test_stat_clr :
    nextField State.transmissionErrors (exec .statClr { initiating with transmissionErrors := 3 }) = some 0 := by decide +kernel

/-- The example of R342. -/
theorem test_stat_rd :
    nextField lastAnswer (exec (.statRd .transmissionErrors) { State.reset with transmissionErrors := 1 })
      = some (some (.ok, [0, 0, 0, 1])) := by
  decide +kernel

/-! The worker and the fetcher. -/

/-- H1, H2: the fifth true sample moves to `Initiating`, a false one starts over. -/
theorem test_debounce :
    resField State.connState (workerStep { State.reset with worker := .debounce 4 } { presence := true }) = some .initiating ∧
      resField State.worker (workerStep { State.reset with worker := .debounce 4 } {}) = some (.debounce 0) := by
  decide +kernel

/-- R423: `stop` is seen after the backoff and inside the fetch. -/
theorem test_stop_in_connect :
    nextField State.worker (step { initiating with worker := .connDownStat, stop := true, inputs := [.worker {}] })
        = some .stopGone ∧
      nextField State.fetch (step { initiating with
        worker := .connFetching
        stop := true
        fetch := some ⟨false, 0, 5, {}, [.serial], 0, 0, false⟩
        inputs := [.worker {}] }) = some none := by
  decide +kernel

/-- R356: a raised allocation failure is taken from a probe at once, and from the poller through the sentinel. -/
theorem test_alloc_failure :
    resField (fun t => (t.connState, t.worker)) (workerStep { initiating with worker := .probing 1, allocFailed := true } {})
        = some (.failed, .failed) ∧
      resField State.worker (workerStep { conn with worker := .pollAct ⟨.ok, []⟩, allocFailed := true } {})
        = some .failUnregister ∧
      resField State.worker (workerStep { conn with worker := .leaveGone, registered := false, allocFailed := true } {})
        = some .failGone := by
  decide +kernel

/-- R362: the 3-chunk vendor name reassembles to 13 bytes; R363: 257 bytes do not fit. -/
theorem test_chunks :
    (appendChunk .vendorName [0x4C, 0x54, 0x44] (appendChunk .vendorName [0x43, 0x4F, 0x52, 0x50, 0x2D]
        (appendChunk .vendorName [0x41, 0x43, 0x4D, 0x45, 0x2D] {}))).vendorName
        = [0x41, 0x43, 0x4D, 0x45, 0x2D, 0x43, 0x4F, 0x52, 0x50, 0x2D, 0x4C, 0x54, 0x44] ∧
      takeField { refcfg with descParseKnown := [(.vendorName, [0], .chunk true [1, 2])] }
        ⟨false, 0, 0, {}, [.vendorName], 1, 255, true⟩ .vendorName [] [0] = none := by
  decide +kernel

/-- R366. -/
theorem test_stability : stabilityOf .beta 1 = .alpha ∧ stabilityOf .beta 3 = .stable ∧ stabilityOf .beta 9 = .beta := by
  decide +kernel

/-- R400: no two kinds share a code. -/
theorem test_status_codes :
    (([.ok, .frameTooLarge, .oversizedRequest, .notSupported, .crcMismatch, .lengthInvalid, .timeout, .interrupted,
      .corruptResponse, .protocolError, .unexpectedMessageType, .transactionError .messageTypeInvalid,
      .transactionError .classIdInvalid, .transactionError .frameCrc, .transactionError .classInvalid,
      .transactionError .dataLengthInvalid, .transactionError .wrongMode, .descriptorRefreshFailed, .descriptorError,
      .busy, .deviceGone, .wouldBlock, .transportFault, .illegalCommand, .mailboxFull] : List Status).map Status.code)
      = List.range 25 := by
  decide +kernel

/-- R291: the release follows the transaction whatever it returned. -/
theorem test_fg_write :
    fgWriteIssue reqT1 false .exchange = some (.xcvXchg, reqT1) ∧
      fgWriteNext .exchange ⟨.timeout, []⟩ = .release ⟨.timeout, []⟩ ∧
      fgWriteIssue reqT1 false (.release ⟨.timeout, []⟩) = some (.arbRelFg, []) ∧
      fgWriteNext .acquire ⟨.busy, []⟩ = .finished ⟨.busy, []⟩ := by
  decide +kernel

/-! Placing a word where the next step fetches it. -/

theorem test_fetch_word :
    nextField State.crcAcc (step (State.reset.withFetchWord 16 0x1000)) = some 0xFFFF ∧
      nextField lastAnswer (step (State.reset.withFetchWord 16 0x7100)) = some (some (.ok, [0, 0, 0, 0])) ∧
      nextField lastAnswer (step (State.reset.withFetchWord 16 0x0000)) = some (some (.illegalCommand, [])) := by
  decide +kernel

/-! For each statement with hypotheses: a concrete state and operands that meet all of them, for each of its clauses. -/

/-- A command of foreground requester 0 as the only input of the reset state. -/
def withCommand (w : Word) : State := { State.reset with inputs := [.command ⟨.fg, 0, w, []⟩] }

theorem witness_IllegalWordAnswered :
    live (withCommand 0x7104) ∧ (withCommand 0x7104).inputs = .command ⟨.fg, 0, 0x7104, []⟩ :: [] ∧
      ∀ r ∈ opcodeTable, r.holds 0x7104 = false := by
  decide +kernel

theorem witness_StepRunsDecoded :
    live (withCommand 0x7103) ∧ (withCommand 0x7103).inputs = .command ⟨.fg, 0, 0x7103, []⟩ :: [] ∧
      decode 0x7103 = .ok (.statRd .descriptorFailed) := by
  decide +kernel

theorem witness_CrcByteFolds :
    ({ State.reset with crcWritten := true } : State).crcWritten = true ∧ State.reset.crcWritten = false := by decide +kernel

theorem witness_CrcRdAnswers :
    ({ State.reset with crcWritten := true } : State).crcWritten = true ∧ State.reset.crcWritten = false := by decide +kernel

theorem witness_CrcStepForms :
    refcfg.crcRefin = false ∧ ({ refcfg with crcRefin := true } : Config).crcRefin = true := by decide +kernel

theorem witness_CrcResidueZero :
    refcfg.crcRefin = false ∧ refcfg.crcXorout = 0 ∧ refcfg.crcTrailerBe = true ∧ refcfg.crcPoly.getLsbD 0 = true ∧
      ({ refcfg with crcPoly := 0x1020 } : Config).crcRefin = false ∧
      (2 ≤ 2 ∧ ([0xFF, 0xFF] : List Byte).length = 2) ∧ validateFrame refcfg 64 frameV10 ≠ .crcMismatch := by
  decide +kernel

/-- The first and the last offset. -/
theorem witness_SingleByteDetected :
    refcfg.crcRefin = false ∧ refcfg.crcPoly.getLsbD 0 = true ∧ isMessage msgV10 = true ∧
      encodeFrame refcfg 64 msgV10 = .ok frameV10 ∧ 0 < 64 ∧ 63 < 64 ∧ (0x01 : Byte) ≠ 0 := by
  decide +kernel

/-- The longest message that fits. -/
def msgV12 : List Byte := [0x01, 0x00, 0x3E, 0x00] ++ (List.range 58).map fun i => BitVec.ofNat 8 i

theorem witness_FrmEncBuildsFrame :
    isMessage msgV12 = true ∧ msgV12.length ≤ State.reset.frameSize - 2 ∧
      msgV12.length ≤ State.reset.cfg.crc16MaxLength ∧ State.reset.frameSize ≤ State.reset.cfg.maximumFrameSize := by
  decide +kernel

/-- V15, V14 and V16. -/
theorem witness_FrmEncErrors :
    (isMessage msgV12 = true ∧ 40 < be16 msgV12 1) ∧
      (isMessage ([1, 0, 63, 0] ++ List.replicate 59 0) = true ∧
        be16 ([1, 0, 63, 0] ++ List.replicate 59 0) 1 ≤ refcfg.crc16MaxLength ∧
        64 - 2 < be16 ([1, 0, 63, 0] ++ List.replicate 59 0) 1) ∧
      ([1, 0, 3] : List Byte).length < 4 ∧ be16 [1, 0, 8, 0] 1 ≠ ([1, 0, 8, 0] : List Byte).length := by
  decide +kernel

/-- V20, V18 on both sides of the range, V10, V19. -/
theorem witness_FrmValChecks :
    (frameV10.length = 64 ∧
        receivedCrc refcfg 64 (frameV10.set 5 0xBA) ≠ (crc16 refcfg ((frameV10.set 5 0xBA).take 62)).toNat) ∧
      (receivedCrc refcfg 64 ([2, 0, 3, 0] ++ List.replicate 58 0 ++ [0xE3, 0x93])
          = (crc16 refcfg ([2, 0, 3, 0] ++ List.replicate 58 0)).toNat ∧
        be16 ([2, 0, 3, 0] ++ List.replicate 58 0 ++ [0xE3, 0x93]) 1 < 4) ∧
      (receivedCrc refcfg 64 ([2, 0, 63, 0] ++ List.replicate 58 0 ++ [0xAA, 0x9D])
          = (crc16 refcfg ([2, 0, 63, 0] ++ List.replicate 58 0)).toNat ∧
        64 - 2 < be16 ([2, 0, 63, 0] ++ List.replicate 58 0 ++ [0xAA, 0x9D]) 1) ∧
      (receivedCrc refcfg 64 frameV10 = (crc16 refcfg (frameV10.take 62)).toNat ∧ 4 ≤ be16 frameV10 1 ∧
        be16 frameV10 1 ≤ 64 - 2) ∧
      (List.replicate 63 (0 : Byte)).length ≠ State.reset.frameSize := by
  decide +kernel

theorem witness_FrmDecAnswers :
    ([2, 0, 3, 0] ++ List.replicate 60 (0 : Byte)).length = 64 ∧ be16 ([2, 0, 3, 0] ++ List.replicate 60 0) 1 < 4 ∧
      64 - 2 < be16 ([2, 0, 63, 0] ++ List.replicate 60 0) 1 ∧ 4 ≤ be16 ([2, 0, 4, 0] ++ List.replicate 60 0) 1 ∧
      be16 ([2, 0, 62, 0] ++ List.replicate 60 0) 1 ≤ 64 - 2 ∧ (List.replicate 65 (0 : Byte)).length ≠ State.reset.frameSize := by
  decide +kernel

theorem witness_CodecRoundTrip :
    isMessage [1, 0, 4, 0] = true ∧ ([1, 0, 4, 0] : List Byte).length ≤ State.reset.frameSize - 2 ∧
      ([1, 0, 4, 0] : List Byte).length ≤ State.reset.cfg.crc16MaxLength ∧
      State.reset.frameSize ≤ State.reset.cfg.maximumFrameSize := by
  decide +kernel

/-- A codec operation and a transceiver step that answer. -/
theorem witness_CodecIgnoresCrcAcc :
    nextField (fun _ => true) (exec .frmEnc { State.reset with cmdData := msgV10 }) = some true ∧
      nextField (fun _ => true) (exec .frmDec { State.reset with cmdData := frameV10 }) = some true ∧
      nextField (fun _ => true) (exec .frmVal { State.reset with cmdData := frameV10 }) = some true ∧
      resField (fun _ => true) (xcvStep (atStep .s2Send [] []) {}) = some true := by
  decide +kernel

/-- The three issuers. -/
theorem witness_XchgAccepted :
    (owned.xcvState = .idle ∧ isMessage reqT1 = true ∧ owned.portCls = .fg ∧ owned.linkOwner = .fg ∧
        owned.fgHolder = owned.portAgent) ∧
      (({ conn with linkOwner := .bg } : State).connState = .connected ∧
        ({ conn with linkOwner := .bg } : State).workerInSequence = false) ∧
      (initiating.portCls = .worker ∧ initiating.connState = .initiating ∧ initiating.linkOwner = .none ∧
        initiating.workerInSequence = false) := by
  decide +kernel

/-- A request one byte too long for the buffers, and the longest that is latched. -/
theorem witness_StepOneChecksAndLatches :
    live (atStep .s1Check [] []) ∧ (atStep .s1Check [] []).xcvState = .s1Check ∧
      refcfg.maximumFrameSize - 2 < be16 ([1, 3, 0xFF, 0] ++ List.replicate 1019 0) 1 ∧
      be16 ([1, 3, 0xFE, 0] ++ List.replicate 1018 0) 1 ≤ refcfg.maximumFrameSize - 2 ∧
      ([1, 3, 0xFE, 0] ++ List.replicate 1018 (0 : Byte)).length ≤ refcfg.maximumFrameSize - 2 := by
  decide +kernel

/-- A well-formed `Config`, a visible descriptor, a message of 7 bytes at least, and a value at the bound 8000. -/
theorem witness_LatchMatchesRequest :
    State.reset.cfg.wf = true ∧ ({ State.reset with descCur := descT12 } : State).visible = some descT12 ∧
      7 ≤ ([0x01, 0x00, 0x0B, 0x00, 0x01, 0x03, 0x00, 0x00, 0x00, 0x1F, 0x40] : List Byte).length ∧
      be32 [0x01, 0x00, 0x0B, 0x00, 0x01, 0x03, 0x00, 0x00, 0x00, 0x1F, 0x40] refcfg.valueOffset = 8000 ∧
      refcfg.speedMinKhz ≤ 8000 ∧ 8000 ≤ descT12.maxSclkSpeed := by
  decide +kernel

theorem witness_StepTwoSends :
    live (atStep .s2Send [] []) ∧ (atStep .s2Send [] []).xcvState = .s2Send ∧
      (atStep .s2Send [] []).reqMsg.read 0 (atStep .s2Send [] []).reqLen = some reqT1 ∧
      (atStep .s2Send [] []).reqLen ≤ refcfg.maximumFrameSize - 2 ∧
      (atStep .s2Send [] []).frameSize ≤ refcfg.maximumFrameSize ∧ isMessage reqT1 = true ∧
      encodeFrame { refcfg with crc16MaxLength := 6 } 64 reqT1 = .error .notSupported ∧
      encodeFrame refcfg 64 reqT1 = .ok (frameOf refcfg 64 reqT1) := by
  decide +kernel

/-- Both waits, the latch clear and set; an edge at the bound 250 and one after it; a wait of 0 ms. -/
theorem witness_ReadyWaitsDecide :
    live (atStep .s3aWait [] []) ∧ (atStep .s3aWait [] []).xcvState = .s3aWait ∧
      (atStep .s3aWait [] []).readyLatch = false ∧ (atStep .s3aWait [] []).vars.timeoutMs = 250 ∧
      ({ ready := .edgeAfter 250 } : Env).ready = .edgeAfter 250 ∧ (250 : Nat) ≠ 0 ∧ 250 ≤ 250 ∧ 250 < 251 ∧
      ({ atStep .s3aWait [] [] with readyLatch := true } : State).readyLatch = true ∧
      live (atStep .s3bSidewait [] []) ∧ (atStep .s3bSidewait [] []).xcvState = .s3bSidewait ∧
      ({ ready := .timeout } : Env).ready ≠ .interrupted ∧
      ({ LoopVars.resetWith refcfg with timeoutMs := 0 } : LoopVars).timeoutMs = 0 := by
  decide +kernel

theorem witness_PollOrReuse :
    live (atStep .s3bPoll [] []) ∧ (atStep .s3bPoll [] []).xcvState = .s3bPoll ∧
      (atStep .s3bPoll [] []).frameSize ≤ refcfg.maximumFrameSize ∧ (atStep .s3bPoll [] []).vars.retxPass = false ∧
      encodeFrame refcfg 64 refcfg.pollMsg = .ok pollFrame ∧
      ({ refcfg with pollMsg := [4, 0, 5, 0, 9], crc16MaxLength := 4 } : Config).wf = true ∧
      encodeFrame { refcfg with pollMsg := [4, 0, 5, 0, 9], crc16MaxLength := 4 } 64 [4, 0, 5, 0, 9] = .error .notSupported ∧
      ({ LoopVars.resetWith refcfg with retxPass := true } : LoopVars).retxPass = true ∧ refcfg.retxSource = .newExchange ∧
      (atStep .s3bPoll [] respFrame).rxRetx.read 0 64 = some respFrame ∧
      ({ refcfg with retxSource := .sideBuffer } : Config).wf = true ∧
      (atStep .s3bPoll [] respFrame).rxSide.read 0 64 = some respFrame := by
  decide +kernel

theorem witness_SideExchangeDefers :
    live (atStep .s3bSide pollFrame []) ∧ (atStep .s3bSide pollFrame []).xcvState = .s3bSide ∧
      (atStep .s3bSide pollFrame []).frameSize ≤ refcfg.maximumFrameSize ∧
      (atStep .s3bSide pollFrame []).txBuf.read 0 (atStep .s3bSide pollFrame []).frameSize = some pollFrame := by
  decide +kernel

/-- A valid and a corrupt frame, an Acknowledgement and a Response. -/
theorem witness_ValidateThenAck :
    live (atStep .s3cValidate [] respFrame) ∧ (atStep .s3cValidate [] respFrame).rxPrimary.read 0 64 = some respFrame ∧
      validateFrame refcfg 64 respFrame = .ok ∧ (atStep .s3cValidate [] badFrame).rxPrimary.read 0 64 = some badFrame ∧
      validateFrame refcfg 64 badFrame ≠ .ok ∧ live (atStep .s3dAck [] pollFrame) ∧
      (atStep .s3dAck [] pollFrame).vars.deferredFail = false ∧
      (atStep .s3dAck [] pollFrame).byte .rxPrimary 0 = some refcfg.mtAck ∧
      (atStep .s3dAck [] respFrame).byte .rxPrimary 0 = some refcfg.mtResponse ∧ refcfg.mtResponse ≠ refcfg.mtAck := by
  decide +kernel

/-- What `primaryHolds` asks, for a message and a state. -/
theorem primaryHolds_of {s : State} {m : List Byte} (h : s.rxPrimary.read 0 4 = some (m.take 4))
    (h' : s.rxPrimary.read 0 (lengthField (m.take 4)) = some m) (hl : m.length ≤ s.cfg.maximumFrameSize - 2) :
    primaryHolds s m := ⟨_, h, h', hl⟩

/-- An error response with a sub-code of the table and one without, an ordinary response and a Wait directive. -/
theorem witness_TypeThenWait :
    live (atStep .s3eType [] [2, 0, 7, 0, 1, 2, 3]) ∧
      primaryHolds (atStep .s3eType [] [2, 0, 7, 0, 1, 2, 3]) [2, 0, 7, 0, 1, 2, 3] ∧
      ([2, 0, 7, 0, 1, 2, 3] : List Byte).length = refcfg.lError ∧
      (3, TxnSub.frameCrc) ∈ [(refcfg.subFramecrc, TxnSub.frameCrc)] ∧
      7 ∉ [refcfg.subMsgtype, refcfg.subClassid, refcfg.subFramecrc, refcfg.subClass, refcfg.subDatalen, refcfg.subMode] ∧
      primaryHolds (atStep .s3fWaitdir [] [2, 0, 11, 0, 1, 1, 0, 0, 0, 7, 0xD0]) [2, 0, 11, 0, 1, 1, 0, 0, 0, 7, 0xD0] ∧
      7 ≤ ([2, 0, 11, 0, 1, 1, 0, 0, 0, 7, 0xD0] : List Byte).length ∧
      triplet [2, 0, 11, 0, 1, 1, 0, 0, 0, 7, 0xD0] = refcfg.tWait :=
  ⟨by decide +kernel, primaryHolds_of (by decide +kernel) (by decide +kernel) (by decide +kernel), by decide +kernel,
    by decide +kernel, by decide +kernel,
    primaryHolds_of (by decide +kernel) (by decide +kernel) (by decide +kernel), by decide +kernel, by decide +kernel⟩

/-- T14: a pending frame size and its confirmation. -/
theorem witness_ConfirmationsApply :
    live { atStep .s3gApply [] [2, 0, 11, 0, 1, 4, 0, 0, 0, 0, 0] with
        vars := { LoopVars.resetWith refcfg with pendingFrameSize := some 256 } } ∧
      primaryHolds (atStep .s3gApply [] [2, 0, 11, 0, 1, 4, 0, 0, 0, 0, 0]) [2, 0, 11, 0, 1, 4, 0, 0, 0, 0, 0] ∧
      ¬ (([2, 0, 11, 0, 1, 4, 0, 0, 0, 0, 0] : List Byte).length = refcfg.lDescCfm) ∧
      7 ≤ ([2, 0, 11, 0, 1, 4, 0, 0, 0, 0, 0] : List Byte).length ∧
      triplet [2, 0, 11, 0, 1, 4, 0, 0, 0, 0, 0] = refcfg.tFsize ∧
      be32 [2, 0, 11, 0, 1, 4, 0, 0, 0, 0, 0] refcfg.valueOffset = 0 :=
  ⟨by decide +kernel, primaryHolds_of (by decide +kernel) (by decide +kernel) (by decide +kernel), by decide +kernel,
    by decide +kernel, by decide +kernel, by decide +kernel⟩

/-- T17: a pending update and its confirmation, a descriptor visible and none. -/
theorem witness_RefreshBegins :
    live { atStep .s3gApply [] [2, 0, 7, 0, 1, 5, 0] with
        descCur := descT12, vars := { LoopVars.resetWith refcfg with pendingDescUpdate := true } } ∧
      primaryHolds (atStep .s3gApply [] [2, 0, 7, 0, 1, 5, 0]) [2, 0, 7, 0, 1, 5, 0] ∧
      (atStep .s3gApply [] []).xcvOuter = none ∧ ([2, 0, 7, 0, 1, 5, 0] : List Byte).length = refcfg.lDescCfm ∧
      triplet [2, 0, 7, 0, 1, 5, 0] = refcfg.tDesc ∧
      ({ State.reset with descCur := descT12 } : State).visible = some descT12 ∧
      live { atStep .s3gApply [] [2, 0, 7, 0, 1, 5, 0] with
        vars := { LoopVars.resetWith refcfg with pendingDescUpdate := true } } ∧
      (atStep .s3gApply [] []).visible = none :=
  ⟨by decide +kernel, primaryHolds_of (by decide +kernel) (by decide +kernel) (by decide +kernel), by decide +kernel,
    by decide +kernel, by decide +kernel, by decide +kernel, by decide +kernel, by decide +kernel⟩

/-- A refresh that has every field, and one whose field transaction timed out. -/
def refreshing (todo : List DescField) (ret : Option Reply) : State :=
  { atStep .s3gRefresh [] [] with
    xcvOuter := some ⟨.port .fg 0, LoopVars.resetWith refcfg, []⟩
    xcvReturn := ret
    fetch := some ⟨true, 7, 7, {}, todo, 0, 0, true⟩ }

/-- A `Config` that knows the responses of a chained and of a fixed field. -/
def knownParse : Config :=
  { refcfg with descParseKnown :=
      [(.vendorName, [1], .chunk true (List.replicate 5 0x41)), (.bootloader, [2], .fixed [7]), (.serial, [3], .sentinel),
        (.power0, [4], .malformed), (.serial, [5], .fixed [7])] }

/-- A chunk that fills the field to its capacity of 256 bytes. -/
theorem fieldTaken_chunk : fieldTaken knownParse ⟨true, 7, 7, {}, [.vendorName, .serial], 1, 251, true⟩ .vendorName [.serial]
    ⟨.ok, [1]⟩ ⟨true, 7, 7, { vendorName := List.replicate 5 0x41 }, [.vendorName, .serial], 2, 256, false⟩ :=
  ⟨rfl, .inr ⟨true, List.replicate 5 0x41, { vendorName := List.replicate 5 0x41 }, by decide +kernel, by decide +kernel,
    by decide +kernel, by decide +kernel⟩⟩

/-- A fixed field. -/
theorem fieldTaken_fixed : fieldTaken knownParse ⟨true, 7, 7, {}, [.bootloader], 0, 0, true⟩ .bootloader []
    ⟨.ok, [2]⟩ ⟨true, 7, 7, { bootloaderState := [7] }, [], 0, 0, false⟩ :=
  ⟨rfl, .inl ⟨[7], { bootloaderState := [7] }, by decide +kernel, by simp [fixedInto], by simp, rfl⟩⟩

/-- One byte too many, the sentinel, a malformed response, a serial code of the wrong size, a failed transaction. -/
theorem fieldFails_each :
    fieldFails knownParse ⟨true, 7, 7, {}, [.vendorName], 1, 252, true⟩ .vendorName ⟨.ok, [1]⟩ ∧
      fieldFails knownParse ⟨true, 7, 7, {}, [.serial], 0, 0, true⟩ .serial ⟨.ok, [3]⟩ ∧
      fieldFails knownParse ⟨true, 7, 7, {}, [.power0], 0, 0, true⟩ .power0 ⟨.ok, [4]⟩ ∧
      fieldFails knownParse ⟨true, 7, 7, {}, [.serial], 0, 0, true⟩ .serial ⟨.ok, [5]⟩ ∧
      fieldFails knownParse ⟨true, 7, 7, {}, [.serial], 0, 0, true⟩ .serial ⟨.timeout, []⟩ :=
  ⟨.inr (.inr (.inr (.inr ⟨true, List.replicate 5 0x41, by decide +kernel, by decide +kernel⟩))), .inr (.inl (by decide +kernel)),
    .inr (.inr (.inl (by decide +kernel))), .inr (.inr (.inr (.inl ⟨[7], by decide +kernel, by decide +kernel⟩))),
    .inl (by decide)⟩

/-- Every field got, with a `rid` to preserve and with none; a field to issue; a result to read, of each kind
(`fieldTaken_chunk`, `fieldTaken_fixed`, `fieldFails_each`). -/
theorem witness_RefreshEnds :
    live { refreshing [.vendorName] none with cfg := knownParse } ∧
      live { refreshing [.vendorName] none with fetch := some ⟨true, 7, 7, {}, [.vendorName], 0, 0, false⟩ } ∧
      (refreshing [.vendorName] none).xcvReturn = none ∧
    live (refreshing [] none) ∧ (refreshing [] none).xcvState = .s3gRefresh ∧
      (refreshing [] none).xcvOuter = some ⟨.port .fg 0, LoopVars.resetWith refcfg, []⟩ ∧
      (refreshing [] none).fetch = some ⟨true, 7, 7, {}, [], 0, 0, true⟩ ∧ (7 : BitVec 32) ≠ 0 ∧
      live { refreshing [] none with fetch := some ⟨true, 0, 7, {}, [], 0, 0, false⟩ } ∧
      (6 : BitVec 32) ≠ 0 ∧ (6 : BitVec 32) ≠ 7 ∧
      live (refreshing [.vendorName] (some ⟨.timeout, []⟩)) ∧
      (refreshing [.vendorName] (some ⟨.timeout, []⟩)).xcvReturn = some ⟨.timeout, []⟩ := by
  decide +kernel

theorem witness_RetransmitOnce :
    live (atStep .retx pollFrame []) ∧ (atStep .retx pollFrame []).xcvState = .retx ∧
      (atStep .retx pollFrame []).cfg.retxSource = .newExchange ∧
      (atStep .retx pollFrame []).txBuf.read 0 (atStep .retx pollFrame []).frameSize = some pollFrame ∧
      live { atStep .retx pollFrame [] with cfg := { refcfg with retxSource := .sideBuffer } } := by
  decide +kernel

/-- An agent at the port and a sequencer, outermost and nested. -/
theorem witness_FailureExit :
    live (atStep .fail [] []) ∧ (atStep .fail [] []).xcvState = .fail ∧ (atStep .fail [] []).xcvOuter = none ∧
      (atStep .fail [] []).xcvCaller = .port .fg 0 ∧
      ({ atStep .fail [] [] with xcvCaller := .poller } : State).xcvCaller = .poller ∧
      live { atStep .fail [] [] with xcvCaller := .fetcher, xcvOuter := some ⟨.port .fg 0, LoopVars.resetWith refcfg, []⟩ } := by
  decide +kernel

/-- An agent at the port, and the fetcher in a refresh. -/
theorem witness_SuccessReturnsResponse :
    live (atStep .done [] [2, 0, 4, 0]) ∧ (atStep .done [] [2, 0, 4, 0]).xcvState = .done ∧
      (atStep .done [] [2, 0, 4, 0]).xcvOuter = none ∧ (atStep .done [] [2, 0, 4, 0]).xcvCaller = .port .fg 0 ∧
      primaryHolds (atStep .done [] [2, 0, 4, 0]) [2, 0, 4, 0] ∧
      live { atStep .done [] [2, 0, 4, 0] with
        xcvCaller := .fetcher
        xcvOuter := some ⟨.port .fg 0, LoopVars.resetWith refcfg, []⟩ } :=
  ⟨by decide +kernel, by decide +kernel, by decide +kernel, by decide +kernel,
    primaryHolds_of (by decide +kernel) (by decide +kernel) (by decide +kernel), by decide +kernel⟩

/-- Twelve environments, each with a corrupt frame of its own. -/
def corruptEnvs : List Env := (List.range 12).map fun i => { ready := .ready, rx := badFrame.set 20 (BitVec.ofNat 8 i) }

/-- T3: the state after `XCV.XCHG` of the foreground owner, against twelve corrupt frames, no two alike. -/
theorem witness_AlwaysCorruptFails :
    live (atStep .s1Check [] []) ∧ SlotInv (atStep .s1Check [] []) ∧ (atStep .s1Check [] []).xcvOuter = none ∧
      (atStep .s1Check [] []).xcvCaller = .port .fg 0 ∧ isMessage reqT1 = true ∧ reqT1.length ≤ 64 - 2 ∧
      reqT1.length ≤ refcfg.crc16MaxLength ∧ refcfg.pollMsg.length ≤ refcfg.crc16MaxLength ∧
      refcfg.tReadyDefaultMs ≠ 0 ∧ (corruptEnvs.map Env.rx).Nodup ∧ corruptEnvs.length = 12 ∧
      ∀ e ∈ corruptEnvs, e.ready = .ready ∧ e.transportFault = false ∧ validateFrame refcfg 64 (fit 64 e.rx) ≠ .ok := by
  decide +kernel

/-- T2: BAD at the poll, junk at the first exchange, RESP and IDLE at the two later ones. -/
def oneCorruptEnvs : List Env :=
  (List.range 16).map fun i =>
    { ready := .ready
      rx := if i = 3 then badFrame else if i = 5 then idleFrame else if i = 7 then respFrame else List.replicate 64 0xFF }

theorem witness_OneCorruptSucceeds :
    (live (atStep .s1Check [] []) ∧ SlotInv (atStep .s1Check [] []) ∧ oneCorruptEnvs.length = 16 ∧
        (∀ e ∈ oneCorruptEnvs, e.ready = .ready ∧ e.transportFault = false) ∧
        (oneCorruptEnvs[3]?.map fun e => decide (validateFrame refcfg 64 (fit 64 e.rx) ≠ .ok)) = some true) ∧
      (oneCorruptEnvs[5]?.map fun e => decide (answersWith (atStep .s1Check [] []) e [2, 0, 4, 0])) = some true ∧
      (oneCorruptEnvs[7]?.map fun e => decide (answersWith (atStep .s1Check [] []) e [2, 0, 6, 0, 0xDE, 0xAD])) = some true ∧
      (matchesShape refcfg.tDesc refcfg.lDescReq reqT1 = false ∧
        matchesShape refcfg.tDesc refcfg.lDescReq [1, 0, 7, 0, 1, 5, 0] = true ∧
        matchesShape refcfg.tDesc refcfg.lDescCfm [2, 0, 7, 0, 1, 5, 0] = true) :=
  ⟨by decide +kernel, by decide +kernel, by decide +kernel, by decide +kernel⟩

/-- A step at the failure exit, and the poller's command in `Failed`. -/
theorem witness_TransmissionErrorsCount :
    nextField State.transmissionErrors (step { atStep .fail [] [] with inputs := [.xcv {}] }) = some 1 ∧
      nextField State.transmissionErrors
        (step { State.reset with connState := .failed, linkOwner := .bg, inputs := [.command ⟨.bg, 0, 0x3000, reqT1⟩] })
          = some 1 := by
  decide +kernel

/-- Not connected; free; taken, both flags. -/
theorem witness_ArbAcqFgAdmits :
    State.reset.portCls = .fg ∧ ¬ (State.reset.linkOwner = .fg ∧ State.reset.fgHolder = State.reset.portAgent) ∧
      (∀ w ∈ State.reset.fgWaiters, w.agent ≠ State.reset.portAgent) ∧ State.reset.connState ≠ .connected ∧
      conn.connState = .connected ∧ conn.registered = true ∧ conn.linkOwner = .none ∧ conn.fgIntent = 0 ∧
      ({ conn with linkOwner := .bg } : State).linkOwner ≠ .none ∧ ({ conn with fgIntent := 1 } : State).fgIntent ≠ 0 := by
  decide +kernel

theorem witness_ArbRelFgReleases :
    owned.portCls = .fg ∧ owned.linkOwner = .fg ∧ owned.fgHolder = owned.portAgent ∧ owned.xcvState = .idle := by
  decide +kernel

theorem witness_PollerAcquiresAndReleases :
    ({ conn with portCls := .bg } : State).portCls = .bg ∧ conn.connState = .connected ∧ conn.linkOwner = .none ∧
      conn.fgIntent = 0 ∧ ({ conn with fgIntent := 1 } : State).fgIntent ≠ 0 ∧
      ({ conn with linkOwner := .bg } : State).linkOwner = .bg ∧ conn.xcvState = .idle := by
  decide +kernel

/-- R414 (d): the bounded wait of a requester ends once the slot has left `Connected`, and while it is connected. -/
theorem test_timeout_gone_before_busy :
    nextField State.answers (step { State.reset with fgWaiters := [⟨3, true⟩], fgIntent := 1, inputs := [.fgTimeout 3] })
        = some [⟨.fg, 3, .deviceGone, []⟩] ∧
      nextField State.answers (step { conn with fgWaiters := [⟨3, false⟩], fgIntent := 1, inputs := [.fgTimeout 3] })
        = some [⟨.fg, 3, .busy, []⟩] := by
  decide +kernel

/-- Connected with and without an owner, no longer connected, and connected again. -/
theorem witness_WaiterLeaves :
    live { conn with fgWaiters := [⟨3, false⟩], fgIntent := 1 } ∧
      (⟨3, false⟩ : FgWaiter) ∈ [⟨3, false⟩] ∧ (∀ w ∈ ([⟨3, false⟩] : List FgWaiter), w.agent = 3 → w.gone = false) ∧
      conn.connState = .connected ∧ conn.linkOwner = .none ∧ owned.linkOwner ≠ .none ∧
      State.reset.connState ≠ .connected ∧ live { conn with fgWaiters := [⟨3, true⟩], fgIntent := 1 } ∧
      ∃ w ∈ ([⟨3, true⟩] : List FgWaiter), w.agent = 3 := by
  decide +kernel

/-- Steps that acquire, and that leave the poller's link alone. -/
theorem witness_ForegroundPreempts :
    nextField State.linkOwner (step { conn with inputs := [.command ⟨.bg, 0, 0x4200, []⟩] }) = some .bg ∧
      nextField State.linkOwner
        (step { conn with linkOwner := .bg, xcvState := .s1Check, inputs := [.command ⟨.fg, 0, 0x4000, []⟩] }) = some .bg := by
  decide +kernel

theorem witness_ArbMisuseRefused :
    ¬ (conn.portCls = .fg ∧ conn.linkOwner = .fg ∧ conn.fgHolder = conn.portAgent) ∧ conn.linkOwner ≠ .bg ∧
      (owned.linkOwner = .fg ∧ owned.fgHolder = owned.portAgent) ∧ (atStep .s1Check [] []).xcvState ≠ .idle ∧
      conn.portCls ≠ .bg := by
  decide +kernel

/-- U14: in `Failed` an operation gated on `Connected` answers `DeviceGone`; R314: so does a post on a gone mailbox, anywhere. -/
theorem test_failed_device_gone :
    nextField lastAnswer (exec .arbAcqBg { State.reset with connState := .failed, portCls := .bg }) = some (some (.deviceGone, [])) ∧
      nextField lastAnswer
          (exec .xcvXchg { State.reset with connState := .failed, linkOwner := .bg, portCls := .bg, cmdData := reqT1 })
        = some (some (.deviceGone, [])) ∧
      refusalOf (exec .xcvXchg { State.reset with connState := .failed, portCls := .bg, cmdData := reqT1 })
        = some .linkNotHeld ∧
      nextField lastAnswer (exec (.mbxTake false) { State.reset with connState := .failed, portCls := .consumer })
        = some (some (.deviceGone, [])) ∧
      nextField lastAnswer (exec .mbxPost { State.reset with mbxLen := -1, portCls := .bg, cmdData := [5] })
        = some (some (.deviceGone, [])) := by
  decide +kernel

/-- Each class in a state that admits it and one that does not; the link held and not; the sequencer idle and not; an operand
that is a message and one that is not; `Failed`, with a message, a body and no sentinel. -/
theorem witness_ClassAndStateGate :
    (({ conn with portCls := .consumer } : State).portCls = .consumer ∧ conn.portCls ≠ .bg ∧ conn.portCls ≠ .worker ∧
      conn.portCls ≠ .consumer ∧ State.reset.connState ≠ .connected ∧ conn.connState ≠ .initiating ∧
      State.reset.mbxLen ≠ -1 ∧ initiating.portCls ≠ .fg ∧ initiating.portCls = .worker) ∧
      (State.reset.stop = false ∧ ({ refcfg with statResetPolicy := .leaveDisconnected } : Config).wf = true ∧
        ({ conn with registered := false } : State).registered = false ∧ (∀ w ∈ conn.fgWaiters, w.agent ≠ conn.portAgent)) ∧
      (conn.portCls = .fg ∧ conn.linkOwner = .none ∧ initiating.connState = .initiating ∧ owned.linkOwner ≠ .none ∧
        ({ initiating with worker := .probing 0 } : State).workerInSequence = true ∧ initiating.workerInSequence = false) ∧
      owned.linkOwner = .fg ∧ owned.fgHolder = owned.portAgent ∧ owned.xcvState = .idle ∧
      (atStep .s1Check [] []).xcvState ≠ .idle ∧ ([1, 0, 3] : List Byte).length < 4 ∧
      be16 [1, 0, 5, 0] 1 ≠ ([1, 0, 5, 0] : List Byte).length ∧
      ({ State.reset with connState := .failed, linkOwner := .bg } : State).connState = .failed ∧ isMessage reqT1 = true ∧
      State.reset.mbxHeld = [] ∧ State.reset.mbxInside = none ∧ State.reset.connState ≠ .failed := by
  decide +kernel

theorem witness_MbxClrAndGone :
    initiating.portCls = .worker ∧ initiating.connState = .initiating ∧ initiating.mbxInside = none ∧
      initiating.mbxHeld = [] ∧ ({ initiating with mbxHeld := [3] } : State).mbxHeld ≠ [] ∧ conn.connState = .connected ∧
      ({ State.reset with stop := true } : State).stop = true := by
  decide +kernel

/-- One byte, the capacity, one more, none; an empty, an occupied and a gone mailbox. -/
theorem witness_MbxPostDelivers :
    conn.connState = .connected ∧ 1 ≤ ([7] : List Byte).length ∧ (List.replicate 1022 (7 : Byte)).length ≤ 1024 - 2 ∧
      1024 - 2 < (List.replicate 1023 (7 : Byte)).length ∧ ([] : List Byte).length = 0 ∧ conn.mbxLen = 0 ∧
      0 < ({ conn with mbxLen := 1 } : State).mbxLen ∧ ({ conn with mbxLen := -1 } : State).mbxLen = -1 ∧
      ({ State.reset with mbxLen := -1 } : State).mbxLen = -1 := by
  decide +kernel

theorem witness_MbxTakeEnters :
    ({ conn with portCls := .consumer } : State).portCls = .consumer ∧ conn.connState = .connected ∧
      conn.registered = true ∧ ({ State.reset with mbxLen := -1 } : State).mbxLen = -1 ∧ conn.portAgent ∉ conn.mbxHeld ∧ conn.mbxInside = none ∧ conn.mbxLock = false ∧
      ({ conn with mbxLock := true } : State).mbxLock = true ∧ refcfg.mbxContention = .hold ∧
      ({ refcfg with mbxContention := .busy } : Config).wf = true := by
  decide +kernel

/-- A consumer inside: at the sentinel, at one byte, at an empty mailbox, waiting; one held at the lock, free and taken. -/
theorem witness_MbxTakeLooks :
    live { conn with mbxInside := some ⟨4, false, .look⟩, mbxLock := true } ∧
      ({ conn with mbxLen := -1 } : State).mbxLen = -1 ∧
      ({ conn with mbxLen := 1, mbxBuf := [(0, 9)] } : State).mbxBuf.read 0 1 = some [9] ∧
      ([9] : List Byte).length ≤ conn.cfg.maximumFrameSize - 2 ∧ conn.mbxLen = 0 ∧
      (⟨4, false, .wait⟩ : Consumer).at_ = .wait ∧ 4 ∉ conn.mbxHeld ∧ live { conn with mbxHeld := [5] } ∧
      5 ∈ ({ conn with mbxHeld := [5] } : State).mbxHeld ∧ conn.mbxInside = none ∧ conn.mbxLock = false ∧
      (⟨4, false, .look⟩ : Consumer).agent ≠ 5 := by
  decide +kernel

theorem witness_PostedIsTaken :
    live conn ∧ conn.connState = .connected ∧ conn.registered = true ∧ conn.mbxLen = 0 ∧ conn.mbxLock = false ∧ conn.mbxInside = none ∧ conn.mbxHeld = [] ∧
      nextField State.mbxLen (exec .mbxPost { conn with portCls := .bg, cmdData := [5] }) = some 1 := by
  decide +kernel

theorem witness_LnkRstResets :
    initiating.portCls = .worker ∧ initiating.connState = .initiating ∧ initiating.xcvState = .idle ∧
      initiating.linkOwner = .none ∧ ({ initiating with linkOwner := .fg } : State).linkOwner ≠ .none := by
  decide +kernel

theorem witness_StatClrClears :
    initiating.portCls = .worker ∧ initiating.connState = .initiating ∧ conn.connState = .connected ∧
      conn.cfg.statResetPolicy = .everyTransition := by
  decide +kernel

/-- The first and the last sample, and `stop`. -/
theorem witness_DebounceSamples :
    live State.reset ∧ State.reset.worker = .debounce 0 ∧ workerBlocked State.reset = false ∧
      State.reset.allocFailed = false ∧ State.reset.stop = false ∧ 3 + 1 < refcfg.debounceSamples ∧
      refcfg.debounceSamples ≤ 4 + 1 ∧ ({ State.reset with stop := true } : State).stop = true ∧
      State.reset.connState = .disconnected := by
  decide +kernel

/-- The poller at P1 to P5, with a foreground transaction in progress at P1; an occupied and an empty mailbox; a body of one
byte, an empty success, a failure; a pending allocation failure while the poller holds the link. -/
theorem witness_PollIteration :
    live { conn with worker := .pollTest } ∧ conn.connState = .connected ∧ workerBlocked conn = false ∧
      workerBlocked (atStep .s3aWait [] []) = false ∧ conn.allocFailed = false ∧
      WorkerPos.mayFail .pollAwait = false ∧ conn.worker = .pollWait ∧ conn.stop = false ∧ conn.readyLatch = false ∧
      conn.linkOwner = .none ∧ conn.fgIntent = 0 ∧ owned.linkOwner ≠ .none ∧
      ({ conn with linkOwner := .bg, worker := .pollExchange } : State).linkOwner = .bg ∧ conn.xcvState = .idle ∧
      conn.xcvReturn = none ∧ 0 < ({ conn with mbxLen := 1 } : State).mbxLen ∧
      conn.mbxLen ≤ 0 ∧ live { conn with worker := .pollAct ⟨.ok, [2, 0, 5, 0, 9]⟩ } ∧
      4 < ([2, 0, 5, 0, 9] : List Byte).length ∧ ([2, 0, 5, 0, 9] : List Byte).length ≤ conn.cfg.maximumFrameSize - 2 ∧
      ([2, 0, 4, 0] : List Byte).length ≤ 4 ∧ Status.timeout ≠ .ok := by
  decide +kernel

/-- A connected slot's worker agrees with its state; a step that changes the connection state; the positions of `CONNECT`, of
the probe at its last and an earlier attempt, of leaving, of the drain with nothing and with each thing in flight; `stop` at
`LNK.RST` and `MBX.CLR`; a pending allocation failure in each kind of state. -/
theorem witness_ConnStateTransitions :
    (workerOk conn ∧ workerOk { State.reset with worker := .debounce 4 } ∧
      nextField State.connState (step { State.reset with worker := .debounce 4, inputs := [.worker { presence := true }] })
        = some .initiating ∧
      live initiating ∧ workerBlocked initiating = false ∧ initiating.allocFailed = false ∧ initiating.stop = false ∧
      initiating.xcvState = .idle ∧ initiating.linkOwner = .none ∧ initiating.mbxInside = none ∧ initiating.mbxHeld = [] ∧
      ({ initiating with mbxHeld := [3] } : State).mbxHeld ≠ [] ∧ owned.linkOwner ≠ .none ∧
      refcfg.resyncRetries ≤ 2 + 1 ∧ 1 + 1 < refcfg.resyncRetries ∧
      ({ refcfg with statResetPolicy := .leaveDisconnected } : Config).wf = true) ∧
      (live { initiating with worker := .connReset, stop := true } ∧ initiating.connState = .initiating ∧
      live { initiating with worker := .probing 0, stop := true, xcvReturn := some ⟨.timeout, []⟩ } ∧
      ({ State.reset with mbxLen := -1 } : State).mbxLen = -1 ∧ State.reset.mbxLen ≠ -1 ∧
      live { State.reset with worker := .stopDrain, stop := true, mbxLen := -1 } ∧ State.reset.xcvState = .idle ∧
      State.reset.linkOwner = .none ∧ State.reset.fgIntent = 0 ∧ State.reset.mbxLock = false ∧ State.reset.mbxHeld = []) ∧
      workerBlocked { owned with worker := .stopDrain, stop := true } = false ∧
      workerBlocked { atStep .s3aWait [] [] with worker := .stopDrain, stop := true } = false ∧
      (atStep .s3aWait [] []).xcvState ≠ .idle ∧ ({ conn with fgIntent := 1 } : State).fgIntent ≠ 0 ∧
      ({ conn with mbxLock := true } : State).mbxLock = true ∧
      WorkerPos.mayFail .failDown = false ∧ WorkerPos.mayFail .pollWait = true ∧
      live { conn with allocFailed := true } ∧ live { initiating with allocFailed := true } ∧ initiating.xcvOuter = none :=
  ⟨by decide +kernel, by decide +kernel, by decide +kernel⟩

theorem witness_DrainBeforeFree :
    workerOk { State.reset with worker := .stopDrain, stop := true, mbxLen := -1 } ∧
      nextField State.discarded
          (step { State.reset with worker := .stopDrain, stop := true, mbxLen := -1, inputs := [.worker {}] })
        = some true ∧
      ({ State.reset with discarded := true } : State).discarded = true := by
  decide +kernel

/-- The start; every field got; a field to issue; a result to read, of each kind (`fieldTaken_chunk`, `fieldTaken_fixed`,
`fieldFails_each`). -/
theorem witness_FreshFetch :
    (refcfg.wf = true ∧ live { initiating with worker := .connFetch } ∧ workerBlocked initiating = false ∧
      initiating.allocFailed = false ∧
      live { initiating with worker := .connFetching, fetch := some ⟨false, 0, 5, {}, [], 0, 0, false⟩ } ∧
      live { initiating with
        cfg := knownParse
        worker := .connFetching
        fetch := some ⟨false, 0, 5, {}, [.serial], 0, 0, true⟩
        xcvReturn := some ⟨.timeout, []⟩ }) ∧
      initiating.xcvState = .idle ∧ initiating.xcvOuter = none ∧ initiating.connState = .initiating ∧
      live { initiating with worker := .connFetching, stop := true } ∧ initiating.stop = false ∧
      initiating.linkOwner = .none ∧ (6 : BitVec 32) ≠ 0 ∧ (6 : BitVec 32) ≠ 5 := by
  decide +kernel

/-- A sound slot in the middle of a transaction, and a step from it. -/
theorem witness_StepKeepsInvariant :
    SlotInv (atStep .s3bSide pollFrame respFrame) ∧
      nextField State.xcvState (step { atStep .s3bSide pollFrame respFrame with inputs := [.xcv {}] }) = some .s3cValidate := by
  decide +kernel

theorem witness_NoUnwrittenByteRead :
    (1023 + 1 ≤ capacity State.reset.cfg .tx ∧ State.reset.byte .tx 1023 = none) ∧
      SlotInv (atStep .s3bSide pollFrame respFrame) ∧ bytesReady (atStep .s3bSide pollFrame respFrame) := by
  decide +kernel

theorem witness_SlotsAreIsolated :
    (match System.stepSlot [(0, State.reset), (1, conn)] 1 with
      | .next z => z.length
      | .fault _ => 0
      | .refused _ => 0) = 2 ∧
      ([(4, refcfg), (7, { refcfg with frameSizeDefault := 128 })].map Prod.fst).Nodup ∧
      (System.startup [(4, refcfg), (7, { refcfg with frameSizeDefault := 128 })]).wf ∧
      ((System.startup [(4, refcfg), (7, { refcfg with frameSizeDefault := 128 })]).slot 7).map
        (fun s => (s.slotId, s.frameSize)) = some (7, 128) := by
  decide +kernel

/-- A well-formed `Config` other than REFCFG. -/
theorem witness_ResetMeetsInvariant :
    ({ refcfg with frameSizeDefault := 128, retxSource := .sideBuffer } : Config).wf = true := by
  decide +kernel

end Sys2Proof.Tests
end

