-- ==== Sys2Proof/Proofs/Reset.lean ====
section
/-! PROOFS. Allocation reset (R52, R451): the values it leaves, and that they meet the invariant of a slot. -/

namespace Sys2Proof.Laws

open Sys2Proof.Machine

variable {c : Config}

/-- REFCFG is a well-formed `Config` (R6). -/
theorem refcfg_wf : refcfg.wf = true := by decide

/-- A well-formed `Config` has a default frame size within the bounds (R6, R51). -/
theorem frameSizeDefault_ok (hc : c.wf = true) : frameSizeOk c c.frameSizeDefault := by
  simp only [Config.wf, Config.sizesOk, Bool.and_eq_true, decide_eq_true_eq] at hc
  tauto

theorem memoryOk_nil (cap : Nat) : memoryOk cap [] := ⟨.nil, nofun⟩

theorem written_zero (m : Memory) : written m 0 := nofun

/-! What reset leaves, by the parts of the state. -/

@[simp] theorem resetWith_buf (c : Config) (id : Nat) (b : BufName) : (State.resetWith c id).buf b = [] := by
  cases b <;> rfl

@[simp] theorem resetWith_byte (c : Config) (id : Nat) (b : BufName) (a : Nat) :
    (State.resetWith c id).byte b a = none := by
  rw [State.byte, resetWith_buf, Memory.get]

theorem resetWith_buffersOk (c : Config) (id : Nat) : buffersOk (State.resetWith c id) :=
  ⟨fun b _ => resetWith_buf c id b ▸ memoryOk_nil _, nofun⟩

/-- The frame size is the default, which the `Config` keeps within the bounds; no change of it is pending. -/
theorem resetWith_linkParamsOk (hc : c.wf = true) (id : Nat) : linkParamsOk (State.resetWith c id) :=
  ⟨frameSizeDefault_ok hc, rfl, nofun, nofun⟩

/-- Nobody waits for the link and nobody owns it. -/
theorem resetWith_arbiterOk (c : Config) (id : Nat) : arbiterOk (State.resetWith c id) := ⟨rfl, .nil⟩

/-- The mailbox is vacant and no consumer is inside. -/
theorem resetWith_mailboxOk (c : Config) (id : Nat) : mailboxOk (State.resetWith c id) :=
  ⟨.inr ⟨Int.le_refl 0, Int.natCast_nonneg _⟩, rfl⟩

theorem resetWith_countersOk (c : Config) (id : Nat) : countersOk (State.resetWith c id) :=
  have h : 0 < 2 ^ c.ctrWidth := Nat.two_pow_pos _
  ⟨h, h, h, h⟩

/-- No transaction is in progress. -/
theorem resetWith_linkExclusive (c : Config) (id : Nat) : linkExclusive (State.resetWith c id) :=
  ⟨fun h => absurd rfl h, nofun⟩

/-- The idle sequencer and the vacant mailbox read nothing. -/
theorem resetWith_bytesReady (c : Config) (id : Nat) : bytesReady (State.resetWith c id) :=
  ⟨rfl, nofun, written_zero _⟩

/-- Allocation reset establishes the invariant of a slot; only the frame size needs the `Config` well formed. -/
theorem resetWith_slotInv (hc : c.wf = true) (id : Nat) : SlotInv (State.resetWith c id) :=
  ⟨hc, resetWith_buffersOk c id, resetWith_linkParamsOk hc id, resetWith_arbiterOk c id, resetWith_mailboxOk c id,
    resetWith_countersOk c id, resetWith_linkExclusive c id⟩

/-- Settles O56: every register is a field of the record that reset builds, and every buffer is empty. -/
theorem resetLeaves : Obligations.ResetLeaves := by
  unfold Obligations.ResetLeaves
  refine ⟨fun c id => ?_, rfl, refcfg_wf⟩
  have unwritten : ∀ b a, (State.resetWith c id).byte b a = none := resetWith_byte c id
  simpa [State.resetWith, LoopVars.resetWith, State.visible, crcSizeDefault] using unwritten

/-- Settles O57, from the parts of the invariant. -/
theorem resetMeetsInvariant : Obligations.ResetMeetsInvariant :=
  ⟨fun c id hc => ⟨resetWith_slotInv hc id, resetWith_bytesReady c id⟩, resetWith_slotInv refcfg_wf 0,
    resetWith_bytesReady refcfg 0⟩

end Sys2Proof.Laws
end

/-! PROOFS. Every step of a slot keeps its `slot_id` (R441) and its invariant (R50, R51, R70, R72, R283, R320); a
system's slots are isolated (R413, R441). The invariant is followed through each named operation first, then through
the transceiver, the command port and the worker. -/

namespace Sys2Proof.Laws

open Sys2Proof.Machine

variable {s t : State} {e : Env} {b : BufName} {m : Memory} {v : List Byte} {a off : Nat}

/-! Parts of the invariant. -/

theorem arbiterOk_of_slotInv (hs : SlotInv s) : arbiterOk s := by
  obtain ⟨-, -, -, harb, -⟩ := hs
  exact harb

theorem mailboxOk_of_slotInv (hs : SlotInv s) : mailboxOk s := by
  obtain ⟨-, -, -, -, hmbx, -⟩ := hs
  exact hmbx

/-- A delivered result is none of the invariant's variables. -/
theorem slotInv_deliver {c : Cls} {st : Status} {d : List Byte} (hs : SlotInv s) : SlotInv (s.deliver c a st d) := hs

theorem slotInv_answer {st : Status} {d : List Byte} (hs : SlotInv s) : SlotInv (s.answer st d) := hs

/-! The buffers and the counters. -/

theorem memoryOk_write {cap : Nat} (hm : memoryOk cap m) (hc : off + v.length ≤ cap) :
    memoryOk cap (m.write off v) := by
  refine ⟨write_wf hm.1, fun x hx => ?_⟩
  rcases mem_write hx with hx | ⟨-, hx⟩
  · exact hm.2 x hx
  · omega

theorem mem_allBuffers (b : BufName) : b ∈ allBuffers := by cases b <;> decide

theorem buffersOk_setBuf (hs : buffersOk s) (hm : memoryOk (capacity s.cfg b) m) : buffersOk (s.setBuf b m) := by
  refine ⟨fun c hc => ?_, by cases b <;> exact hs.2⟩
  by_cases hcb : c = b
  · subst hcb; simpa using hm
  · simpa [setBuf_buf_other hcb] using hs.1 c hc

theorem slotInv_memWrite (hs : SlotInv s) (h : memWrite s b off v = .ok t) : SlotInv t := by
  obtain ⟨rfl, hc⟩ := memWrite_ok h
  obtain ⟨hw, hbuf, rest⟩ := hs
  have hbuf' := buffersOk_setBuf hbuf (memoryOk_write (hbuf.1 b (mem_allBuffers b)) hc)
  cases b <;> exact ⟨hw, hbuf', rest⟩

theorem slotInv_storeFrame (hs : SlotInv s) (h : storeFrame s v = .ok t) : SlotInv t := by
  obtain ⟨u, hu, rfl⟩ := map_ok.1 h
  obtain ⟨hw, hbuf, ⟨hf, -, hp⟩, rest⟩ := slotInv_memWrite hs hu
  exact ⟨hw, hbuf, ⟨hf, rfl, hp⟩, rest⟩

theorem bump_lt (c : Config) (n : Nat) : bump c n < 2 ^ c.ctrWidth := Nat.mod_lt _ (Nat.two_pow_pos _)

theorem slotInv_countError (hs : SlotInv s) :
    SlotInv { s with transmissionErrors := bump s.cfg s.transmissionErrors } := by
  obtain ⟨hw, hbuf, hlp, harb, hmbx, ⟨-, hctr⟩, hex⟩ := hs
  exact ⟨hw, hbuf, hlp, harb, hmbx, ⟨bump_lt _ _, hctr⟩, hex⟩

theorem slotInv_countNotificationFailed (hs : SlotInv s) :
    SlotInv { s with notificationsFailed := bump s.cfg s.notificationsFailed } := by
  obtain ⟨hw, hbuf, hlp, harb, hmbx, ⟨he, hr, -, hd⟩, hex⟩ := hs
  exact ⟨hw, hbuf, hlp, harb, hmbx, ⟨he, hr, bump_lt _ _, hd⟩, hex⟩

theorem slotInv_clearStats (hs : SlotInv s) : SlotInv (clearStats s) := by
  obtain ⟨hw, hbuf, hlp, harb, hmbx, -, hex⟩ := hs
  have h : 0 < 2 ^ s.cfg.ctrWidth := Nat.two_pow_pos _
  exact ⟨hw, hbuf, hlp, harb, hmbx, ⟨h, h, h, h⟩, hex⟩

/-! The ownership of the link. -/

/-- The sequencer is idle where nobody may use the link: while `Connected`, the link has no owner (R50). -/
theorem idle_of_connected_unowned (hs : SlotInv s) (hc : s.connState = .connected) (ho : s.linkOwner = .none) :
    s.xcvState = .idle := by
  obtain ⟨-, -, -, -, -, -, hroot, -⟩ := hs
  by_contra hx
  have := hroot hx
  unfold mayUseLink at this
  split at this <;> simp_all

/-- An idle sequencer has no transaction kept aside. -/
theorem outer_eq_none_of_idle (hs : SlotInv s) (hi : s.xcvState = .idle) : s.xcvOuter = none := by
  obtain ⟨-, -, -, -, -, -, -, hout⟩ := hs
  by_contra hne
  exact hout (Option.isSome_iff_ne_none.2 hne) hi

/-- The link changes hands while the sequencer is idle: of the invariant only the count of intents speaks of it. -/
theorem slotInv_setOwner {o : LinkOwner} {h n : Nat} {ws : List FgWaiter} (hs : SlotInv s) (hi : s.xcvState = .idle)
    (ha : n = ws.length + (if o = .fg then 1 else 0)) (hn : (ws.map FgWaiter.agent).Nodup) :
    SlotInv { s with linkOwner := o, fgHolder := h, fgIntent := n, fgWaiters := ws } := by
  have hout := outer_eq_none_of_idle hs hi
  obtain ⟨hw, hbuf, hlp, -, hmbx, hctr, -⟩ := hs
  exact ⟨hw, hbuf, hlp, ⟨ha, hn⟩, hmbx, hctr, fun hx => absurd hi hx, fun hx => by simp [hout] at hx⟩

/-- The waiting requesters change, and the intents with them; the owner stands. -/
theorem slotInv_setWaiters {n : Nat} {ws : List FgWaiter} (hs : SlotInv s)
    (ha : n = ws.length + (if s.linkOwner = .fg then 1 else 0)) (hn : (ws.map FgWaiter.agent).Nodup) :
    SlotInv { s with fgIntent := n, fgWaiters := ws } := by
  obtain ⟨hw, hbuf, hlp, -, hmbx, hctr, hex⟩ := hs
  exact ⟨hw, hbuf, hlp, ⟨ha, hn⟩, hmbx, hctr, hex⟩

/-- A requester waits once (R283): without it, the waiting requesters are one fewer. -/
theorem length_without_waiter {ws : List FgWaiter} (hn : (ws.map FgWaiter.agent).Nodup)
    (ha : (ws.any fun w => decide (w.agent = a)) = true) :
    (ws.filter fun w => decide (w.agent ≠ a)).length + 1 = ws.length := by
  induction ws with
  | nil => simp at ha
  | cons w ws ih =>
    obtain ⟨hw, hn⟩ := List.nodup_cons.1 hn
    by_cases hwa : w.agent = a
    · have hrest : ws.filter (fun w => decide (w.agent ≠ a)) = ws :=
        List.filter_eq_self.2 fun x hx => decide_eq_true fun hxa => hw (hwa ▸ hxa ▸ List.mem_map_of_mem hx)
      rw [List.filter_cons_of_neg (by simpa using hwa), hrest, List.length_cons]
    · simpa [hwa] using ih hn (by simpa [hwa] using ha)

theorem nodup_without_waiter {ws : List FgWaiter} (hn : (ws.map FgWaiter.agent).Nodup) (p : FgWaiter → Bool) :
    ((ws.filter p).map FgWaiter.agent).Nodup := hn.sublist (List.filter_sublist.map _)

theorem slotInv_leaveFg (hs : SlotInv s) (hwait : s.fgWaits a = true) (st : Status) : SlotInv (leaveFg s a st) := by
  have ⟨hint, hn⟩ := arbiterOk_of_slotInv hs
  have hlen := length_without_waiter hn hwait
  exact slotInv_deliver (slotInv_setWaiters hs (by omega) (nodup_without_waiter hn _))

/-- A grant is made while `Connected` and of a link without owner, so no transaction is in progress (R285 (a)). -/
theorem slotInv_grantFg (hs : SlotInv s) (hwait : s.fgWaits a = true) (hc : s.connState = .connected)
    (ho : s.linkOwner = .none) : SlotInv (grantFg s a) := by
  have ⟨hint, hn⟩ := arbiterOk_of_slotInv hs
  have hlen := length_without_waiter hn hwait
  have hcount : s.fgIntent = (s.fgWaiters.filter fun w => decide (w.agent ≠ a)).length + 1 := by
    rw [hlen]; simpa [ho] using hint
  exact slotInv_deliver
    (slotInv_setOwner hs (idle_of_connected_unowned hs hc ho) hcount (nodup_without_waiter hn _))

theorem slotInv_fgTurn (hs : SlotInv s) (a : Nat) : SlotInv (fgTurn s a) := by
  unfold fgTurn
  split
  · next hwait =>
    split
    · exact slotInv_leaveFg hs hwait _
    · next hgone =>
      split
      · next ho =>
        have hc : s.connState = .connected := by
          by_contra hc
          simp [waiterGone, hc] at hgone
        exact slotInv_grantFg hs hwait hc ho
      · exact hs
  · exact hs

theorem slotInv_fgTimeout (hs : SlotInv s) (a : Nat) : SlotInv (fgTimeout s a) := by
  unfold fgTimeout
  split
  · exact slotInv_leaveFg hs ‹_› _
  · exact hs

theorem slotInv_fgInterrupt (hs : SlotInv s) (a : Nat) : SlotInv (fgInterrupt s a) := by
  unfold fgInterrupt
  split
  · exact slotInv_leaveFg hs ‹_› _
  · exact hs

/-- The admission of a requester: an owner of a free link, one more that waits, or an error (R284, R286). -/
theorem slotInv_admitFg (hs : SlotInv s) (hwait : s.fgWaits s.portAgent = false) (nb : Bool) :
    SlotInv (admitFg nb s) := by
  have ⟨hint, hn⟩ := arbiterOk_of_slotInv hs
  unfold admitFg
  split
  · exact hs
  · next hc =>
    split
    · next hfree =>
      simp only [State.linkFree, Bool.and_eq_true, decide_eq_true_eq] at hfree
      obtain ⟨ho, hzero⟩ := hfree
      have hidle := idle_of_connected_unowned hs (not_not.1 hc) ho
      exact slotInv_answer (slotInv_setOwner hs hidle (by simpa [ho] using hint) hn)
    · split
      · exact hs
      · refine slotInv_setWaiters hs (by simp; omega) ?_
        simp only [State.fgWaits, List.any_eq_false, decide_eq_true_eq] at hwait
        simpa [List.nodup_append, hn] using hwait

theorem slotInv_releaseFg (hs : SlotInv s) (ho : s.linkOwner = .fg) (hi : s.xcvState = .idle) :
    SlotInv (releaseFg s) := by
  have ⟨hint, hn⟩ := arbiterOk_of_slotInv hs
  exact slotInv_setOwner hs hi (by simp [ho] at hint ⊢; omega) hn

theorem slotInv_acquireBg (hs : SlotInv s) (hi : s.linkOwner = .none → s.xcvState = .idle) :
    SlotInv (acquireBg s).1 := by
  have ⟨hint, hn⟩ := arbiterOk_of_slotInv hs
  unfold acquireBg
  split
  · next hfree =>
    simp only [State.linkFree, Bool.and_eq_true, decide_eq_true_eq] at hfree
    exact slotInv_setOwner hs (hi hfree.1) (by simp [hfree.1] at hint; simpa using hint) hn
  · exact hs

theorem slotInv_releaseBg (hs : SlotInv s) (h : releaseBg s = .ok t) : SlotInv t := by
  obtain ⟨ho, hi, rfl⟩ := releaseBg_ok h
  have ⟨hint, hn⟩ := arbiterOk_of_slotInv hs
  exact slotInv_setOwner hs hi (by simp [ho] at hint; simpa using hint) hn

/-! The mailbox. -/

/-- The mailbox takes a length in range, and the lock stands with the consumer inside (R51, R320). -/
theorem slotInv_setMailbox {n : Int} {l : Bool} {c : Option Consumer} (hs : SlotInv s)
    (hn : n = -1 ∨ (0 ≤ n ∧ n ≤ s.cfg.mbxCapacity)) (hl : l = c.isSome) :
    SlotInv { s with mbxLen := n, mbxLock := l, mbxInside := c } := by
  obtain ⟨hw, hbuf, hlp, harb, -, hctr, hex⟩ := hs
  exact ⟨hw, hbuf, hlp, harb, ⟨hn, hl⟩, hctr, hex⟩

theorem isSome_wakeConsumer (c : Option Consumer) : (wakeConsumer c).isSome = c.isSome := Option.isSome_map

theorem slotInv_clearMailbox (hs : SlotInv s) : SlotInv (clearMailbox s) :=
  have ⟨_, hl⟩ := mailboxOk_of_slotInv hs
  slotInv_setMailbox hs (.inr ⟨Int.le_refl 0, Int.natCast_nonneg _⟩) hl

theorem slotInv_goneMailbox (hs : SlotInv s) : SlotInv (goneMailbox s) :=
  have ⟨_, hl⟩ := mailboxOk_of_slotInv hs
  slotInv_setMailbox hs (.inl rfl) (by simpa [isSome_wakeConsumer] using hl)

theorem slotInv_leaveMailbox (hs : SlotInv s) (a : Nat) (st : Status) (d : List Byte) :
    SlotInv (leaveMailbox s a st d) :=
  have ⟨hn, _⟩ := mailboxOk_of_slotInv hs
  slotInv_deliver (slotInv_setMailbox hs hn rfl)

theorem slotInv_enterMailbox (hs : SlotInv s) (a : Nat) (nb : Bool) : SlotInv (enterMailbox s a nb) :=
  have ⟨hn, _⟩ := mailboxOk_of_slotInv hs
  slotInv_setMailbox hs hn rfl

theorem slotInv_postMailbox {d : List Byte} {r : State × Status} (hs : SlotInv s) (h : postMailbox s d = .ok r) :
    SlotInv r.1 := by
  rcases postMailbox_ok h with ⟨-, rfl⟩ | ⟨-, rfl⟩ | ⟨-, -, hd, rfl⟩
  · exact hs
  · exact slotInv_countNotificationFailed hs
  · obtain ⟨hw, hbuf, hlp, harb, ⟨-, hl⟩, ⟨he, -, hctr⟩, hex⟩ := hs
    have hmem := memoryOk_write (off := 0) (hbuf.1 .mbx (mem_allBuffers _)) (by simpa [capacity] using hd)
    exact ⟨hw, buffersOk_setBuf (b := .mbx) hbuf hmem, hlp, harb,
      ⟨.inr ⟨Int.natCast_nonneg _, Int.ofNat_le.2 hd⟩, by simpa [isSome_wakeConsumer] using hl⟩,
      ⟨he, bump_lt _ _, hctr⟩, hex⟩

theorem slotInv_takeLook {c : Consumer} (hs : SlotInv s) (hin : s.mbxInside = some c) (h : takeLook s c = .ok t) :
    SlotInv t := by
  have ⟨hn, hl⟩ := mailboxOk_of_slotInv hs
  rcases takeLook_ok h with ⟨-, rfl⟩ | ⟨-, d, -, rfl⟩ | ⟨-, -, -, rfl⟩ | ⟨-, -, -, rfl⟩
  · exact slotInv_leaveMailbox hs _ _ _
  · exact slotInv_leaveMailbox (slotInv_clearMailbox hs) _ _ _
  · exact slotInv_leaveMailbox hs _ _ _
  · exact slotInv_setMailbox hs hn (by simpa [hin] using hl)

theorem slotInv_consumerTurn (hs : SlotInv s) (h : consumerTurn s a = .ok t) : SlotInv t := by
  unfold consumerTurn at h
  split at h
  · next c hin =>
    split at h
    · exact slotInv_takeLook hs hin h
    · cases h; exact hs
  · split at h
    · cases h
      have hheld : SlotInv { s with mbxHeld := s.mbxHeld.filter fun b => decide (b ≠ a) } := hs
      exact slotInv_enterMailbox hheld _ _
    · cases h; exact hs

theorem slotInv_consumerInterrupt (hs : SlotInv s) (a : Nat) : SlotInv (consumerInterrupt s a) := by
  unfold consumerInterrupt
  split
  · exact hs
  · split
    · split
      · exact slotInv_leaveMailbox hs _ _ _
      · exact hs
    · exact hs

/-! Link reset. -/

theorem slotInv_linkReset (hs : SlotInv s) : SlotInv (linkReset s) := by
  obtain ⟨hw, hbuf, ⟨-, -, hp⟩, rest⟩ := hs
  exact ⟨hw, hbuf, ⟨frameSizeDefault_ok hw, rfl, hp⟩, rest⟩

/-! A transaction starts and ends. -/

/-- A transaction starts under its issuer's ownership, or nested in one that has it (R50, R191, R262). -/
theorem slotInv_startXchg {c : Caller} (hs : SlotInv s) (hc : s.xcvOuter = none → mayUseLink s c = true)
    (m : List Byte) : SlotInv (s.startXchg c m) := by
  obtain ⟨hw, hbuf, hlp, harb, hmbx, hctr, hroot, hout⟩ := hs
  refine ⟨hw, hbuf, hlp, harb, hmbx, hctr, fun _ => ?_, nofun⟩
  cases ho : s.xcvOuter with
  | none =>
    have hissuer : (s.startXchg c m).rootCaller = c := by simp [State.rootCaller, ho]
    rw [hissuer]
    exact hc ho
  | some o =>
    have hissuer : (s.startXchg c m).rootCaller = s.rootCaller := by simp [State.rootCaller, ho]
    rw [hissuer]
    exact hroot (hout (by simp [ho]))

/-- A nested transaction returns to `S3G_REFRESH`, under its outer one's issuer; another one to `IDLE`. -/
theorem slotInv_returnXchg (hs : SlotInv s) (r : Reply) : SlotInv (s.returnXchg r) := by
  rw [returnXchg_eq]
  obtain ⟨hw, hbuf, hlp, harb, hmbx, hctr, hroot, hout⟩ := hs
  cases ho : s.xcvOuter.isSome with
  | false => exact ⟨hw, hbuf, hlp, harb, hmbx, hctr, fun hx => absurd rfl hx, fun hx => by simp [ho] at hx⟩
  | true => exact ⟨hw, hbuf, hlp, harb, hmbx, hctr, fun _ => hroot (hout ho), nofun⟩

/-! The fetcher. -/

/-- Reading a field's result counts at most a failed fetch. -/
theorem slotInv_fetchTake {st : FetchState} {f : DescField} {rest : List DescField} {r : Reply} (hs : SlotInv s) :
    SlotInv (fetchTake s st f rest r).1 := by
  have hfail : SlotInv { s with descriptorFailed := bump s.cfg s.descriptorFailed } := by
    obtain ⟨hw, hbuf, hlp, harb, hmbx, ⟨he, hr, hn, -⟩, hex⟩ := hs
    exact ⟨hw, hbuf, hlp, harb, hmbx, ⟨he, hr, hn, bump_lt _ _⟩, hex⟩
  unfold fetchTake
  split
  · dsimp only
    split
    · exact hs
    · exact hfail
  · exact hfail

/-- The fetcher issues where the sequencer is free and the link is its own: nested in a refresh, or in `Initiating` with
no owner of the link (R369). -/
theorem slotInv_fetchStep {r : State × FetchEnd} (hs : SlotInv s) (h : fetchStep s e = .ok r) : SlotInv r.1 := by
  rcases fetchStep_ok h with rfl | ⟨st, -, ⟨-, rfl⟩ | ⟨f, rest, -, ⟨-, p, -, rfl⟩ | ⟨-, -, h⟩⟩⟩
  · exact hs
  · exact hs
  · exact slotInv_fetchTake hs
  · obtain ⟨hmay, rfl⟩ := fetchIssue_ok h
    have hcaller : s.xcvOuter = none → mayUseLink s .fetcher = true := fun ho => by
      simpa [fetcherMayUseLink, mayUseLink, ho] using hmay
    exact slotInv_startXchg hs hcaller (descReq s.cfg f st.chunk)

/-! The transceiver: every step from a state other than `IDLE` is one of a transaction in progress. -/

/-- A sound slot with a transaction in progress. -/
structure InTransaction (s : State) : Prop where
  slotInv : SlotInv s
  busy : s.xcvState ≠ .idle

namespace InTransaction

theorem goto (hs : InTransaction s) (x : XcvState) (hx : x ≠ .idle) : InTransaction (s.goto x) := by
  obtain ⟨⟨hw, hbuf, hlp, harb, hmbx, hctr, hroot, -⟩, hb⟩ := hs
  exact ⟨⟨hw, hbuf, hlp, harb, hmbx, hctr, fun _ => hroot hb, fun _ => hx⟩, hx⟩

theorem toFail (hs : InTransaction s) (e : Status) : InTransaction (s.toFail e) :=
  ⟨(hs.goto .fail (by decide)).slotInv, by simp⟩

theorem setVars {v : LoopVars} (hs : InTransaction s) (hv : ∀ n ∈ v.pendingFrameSize, frameSizeOk s.cfg n) :
    InTransaction { s with vars := v } := by
  obtain ⟨⟨hw, hbuf, ⟨hf, hc, -, ho⟩, rest⟩, hb⟩ := hs
  exact ⟨⟨hw, hbuf, ⟨hf, hc, hv, ho⟩, rest⟩, hb⟩

/-- The sequencer goes on with new loop variables. -/
theorem gotoVars {v : LoopVars} {x : XcvState} (hs : InTransaction s) (hx : x ≠ .idle)
    (hv : ∀ n ∈ v.pendingFrameSize, frameSizeOk s.cfg n) : InTransaction { s with vars := v, xcvState := x } :=
  (hs.setVars hv).goto x hx

theorem pendingFrameSize_ok (hs : InTransaction s) : ∀ n ∈ s.vars.pendingFrameSize, frameSizeOk s.cfg n := by
  obtain ⟨⟨-, -, ⟨-, -, hp, -⟩, -⟩, -⟩ := hs
  exact hp

theorem memWrite (hs : InTransaction s) (h : memWrite s b off v = .ok t) : InTransaction t := by
  refine ⟨slotInv_memWrite hs.slotInv h, ?_⟩
  obtain ⟨rfl, -⟩ := memWrite_ok h
  cases b <;> exact hs.busy

theorem storeFrame (hs : InTransaction s) (h : storeFrame s v = .ok t) : InTransaction t := by
  refine ⟨slotInv_storeFrame hs.slotInv h, ?_⟩
  obtain ⟨rfl, -⟩ := storeFrame_ok h
  exact hs.busy

theorem exchange {r : State × Bool} (hs : InTransaction s) (h : exchange s e b = .ok r) : InTransaction r.1 := by
  obtain ⟨tx, -, -, hw⟩ := exchange_ok h
  have hsent : InTransaction { s with sent := tx :: s.sent } := ⟨hs.slotInv, hs.busy⟩
  exact hsent.memWrite hw

theorem afterExchange {next : State → State} {r : State × Bool} (hr : InTransaction r.1)
    (hn : ∀ u, InTransaction u → InTransaction (next u)) : InTransaction (afterExchange next r) := by
  unfold Machine.afterExchange
  split
  split
  · exact hr.toFail _
  · exact hn _ hr

theorem readyWait (hs : InTransaction s) (w : Option Nat) (x : ReadyAnswer) : InTransaction (readyWait s w x).1 := by
  rw [readyWait_state]
  exact ⟨hs.slotInv, hs.busy⟩

/-- Only a frame size within the bounds is latched (R258). -/
theorem xcvS1Check (hs : InTransaction s) (h : xcvS1Check s = .ok t) : InTransaction t := by
  unfold Machine.xcvS1Check at h
  split at h
  · cases h; exact hs.toFail _
  · obtain ⟨u, hu, h⟩ := bind_ok.1 h
    cases h
    have hcfg : u.cfg = s.cfg := (memWrite_outside (by decide) hu).cfg
    have hlatched : ∀ n ∈ (latchDirective s s.xcvOperand).pendingFrameSize, frameSizeOk u.cfg n := by
      intro n hn
      simp only [latchDirective, Option.mem_def, Option.ite_none_right_eq_some,
        Bool.and_eq_true, Option.some.injEq] at hn
      obtain ⟨⟨-, hacc⟩, rfl⟩ := hn
      unfold acceptFsize at hacc
      split at hacc
      · cases hacc
      · simp only [Bool.and_eq_true, decide_eq_true_eq] at hacc
        obtain ⟨⟨hmin, -⟩, hmax⟩ := hacc
        rw [hcfg]
        exact ⟨hmin, hmax⟩
    have hu := hs.memWrite hu
    have hlen : InTransaction { u with reqLen := s.xcvOperand.length } := ⟨hu.slotInv, hu.busy⟩
    exact hlen.gotoVars (by decide) hlatched

theorem xcvS2Send (hs : InTransaction s) (h : xcvS2Send s e = .ok t) : InTransaction t := by
  unfold Machine.xcvS2Send at h
  obtain ⟨m, -, h⟩ := bind_ok.1 h
  split at h
  · cases h; exact hs.toFail _
  · obtain ⟨u, hu, h⟩ := bind_ok.1 h
    obtain ⟨r, hr, h⟩ := bind_ok.1 h
    cases h
    have hclear : InTransaction (readyClear u) := ⟨(hs.storeFrame hu).slotInv, (hs.storeFrame hu).busy⟩
    exact (hclear.exchange hr).afterExchange fun w hw => hw.gotoVars (by decide) hw.pendingFrameSize_ok

theorem xcvS3aWait (hs : InTransaction s) (e : Env) : InTransaction (xcvS3aWait s e) := by
  have hw := hs.readyWait (some s.vars.timeoutMs) e.ready
  unfold Machine.xcvS3aWait
  split
  · next heq => rw [heq] at hw; exact hw.goto .s3bPoll (by decide)
  · next heq => rw [heq] at hw; exact hw.toFail _
  · next heq => rw [heq] at hw; exact hw.toFail _

theorem xcvS3bPoll (hs : InTransaction s) (h : xcvS3bPoll s e = .ok t) : InTransaction t := by
  unfold Machine.xcvS3bPoll at h
  split at h
  · obtain ⟨f, -, h⟩ := bind_ok.1 h
    obtain ⟨u, hu, h⟩ := bind_ok.1 h
    cases h
    have hu := hs.memWrite hu
    exact hu.gotoVars (by decide) hu.pendingFrameSize_ok
  · split at h
    · cases h; exact hs.toFail _
    · obtain ⟨u, hu, h⟩ := bind_ok.1 h
      obtain ⟨r, hr, h⟩ := bind_ok.1 h
      cases h
      exact ((hs.storeFrame hu).exchange hr).afterExchange fun w hw => hw.goto .s3bSidewait (by decide)

theorem xcvS3bSidewait (hs : InTransaction s) (e : Env) : InTransaction (xcvS3bSidewait s e) := by
  have hw := hs.readyWait (some s.cfg.tSideMs) e.ready
  unfold Machine.xcvS3bSidewait
  split
  · next heq => rw [heq] at hw; exact hw.goto .s3bSide (by decide)
  · next heq => rw [heq] at hw; exact hw.goto .s3bSide (by decide)
  · next heq => rw [heq] at hw; exact hw.toFail _

theorem xcvS3bSide (hs : InTransaction s) (h : xcvS3bSide s e = .ok t) : InTransaction t := by
  unfold Machine.xcvS3bSide at h
  obtain ⟨r, hr, h⟩ := bind_ok.1 h
  have hr := hs.exchange hr
  split at h
  · cases h; exact hr.toFail _
  · obtain ⟨f, -, h⟩ := bind_ok.1 h
    cases h
    exact hr.gotoVars (by decide) hr.pendingFrameSize_ok

theorem xcvS3cValidate (hs : InTransaction s) (h : xcvS3cValidate s = .ok t) : InTransaction t := by
  unfold Machine.xcvS3cValidate at h
  obtain ⟨f, -, h⟩ := bind_ok.1 h
  split at h
  · cases h; exact hs.goto .s3dAck (by decide)
  · split at h
    · cases h; exact hs.toFail _
    · cases h; exact hs.goto .retx (by decide)

theorem xcvS3dAck (hs : InTransaction s) (h : xcvS3dAck s = .ok t) : InTransaction t := by
  unfold Machine.xcvS3dAck at h
  split at h
  · cases h; exact hs.toFail _
  · obtain ⟨f, -, h⟩ := bind_ok.1 h
    split at h
    · split at h
      · cases h; exact hs.toFail _
      · cases h; exact hs.goto .retx (by decide)
    · cases h; exact hs.goto .s3eType (by decide)

theorem xcvS3eType (hs : InTransaction s) (h : xcvS3eType s = .ok t) : InTransaction t := by
  unfold Machine.xcvS3eType at h
  obtain ⟨m, -, h⟩ := bind_ok.1 h
  split at h
  · split at h
    · cases h; exact hs.toFail _
    · cases h; exact hs.goto .s3fWaitdir (by decide)
  · cases h; exact hs.toFail _

theorem xcvS3fWaitdir (hs : InTransaction s) (h : xcvS3fWaitdir s = .ok t) : InTransaction t := by
  unfold Machine.xcvS3fWaitdir at h
  obtain ⟨m, -, h⟩ := bind_ok.1 h
  split at h
  · cases h; exact hs.gotoVars (by decide) hs.pendingFrameSize_ok
  · cases h; exact hs.goto .s3gApply (by decide)

/-- A confirmed frame size is the pending one, which is within the bounds (R259). -/
theorem applyLinkParams (hs : InTransaction s) (r : List Byte) : InTransaction (applyLinkParams s r) := by
  have hconf : ∀ n, confirmedFsize s r = some n → frameSizeOk s.cfg n := fun n hn => by
    simp only [confirmedFsize, Option.ite_none_right_eq_some] at hn
    exact hs.pendingFrameSize_ok n hn.2
  obtain ⟨⟨hw, hbuf, ⟨hf, hrest⟩, rest⟩, hb⟩ := hs
  refine ⟨⟨hw, hbuf, ⟨?_, hrest⟩, rest⟩, hb⟩
  dsimp only [Machine.applyLinkParams]
  split
  · exact hconf _ ‹_›
  · exact hf

/-- What the refresh keeps aside is what the transaction had (R262). -/
theorem beginRefresh (hs : InTransaction s) (ho : s.xcvOuter = none) : InTransaction (beginRefresh s) := by
  have hroot : mayUseLink s s.xcvCaller = true := by
    obtain ⟨⟨-, -, -, -, -, -, hroot, -⟩, hb⟩ := hs
    simpa [State.rootCaller, ho] using hroot hb
  have hpending := hs.pendingFrameSize_ok
  obtain ⟨⟨hw, ⟨hbuf, -⟩, ⟨hf, hc, -, -⟩, harb, hmbx, hctr, -⟩, -⟩ := hs
  refine ⟨⟨hw, ⟨hbuf, ?_⟩, ⟨hf, hc, hpending, ?_⟩, harb, hmbx, hctr, fun _ => hroot, nofun⟩,
    nofun⟩
  · rintro o ⟨⟩; exact hbuf .rxPrimary (mem_allBuffers _)
  · rintro o ⟨⟩; exact hpending

/-- What the refresh kept aside is back, and with it the issuer of the outer transaction (R262). -/
theorem endRefresh (hs : InTransaction s) : InTransaction (endRefresh s) := by
  unfold Machine.endRefresh
  split
  · exact hs
  · next o ho =>
    obtain ⟨⟨hw, ⟨hbuf, hobuf⟩, ⟨hf, hc, -, hop⟩, harb, hmbx, hctr, hroot, -⟩, hb⟩ := hs
    have hroot : mayUseLink s o.caller = true := by simpa [State.rootCaller, ho] using hroot hb
    exact ⟨⟨hw, ⟨(buffersOk_setBuf (b := .rxPrimary) ⟨hbuf, hobuf⟩ (hobuf o ho)).1, nofun⟩, ⟨hf, hc, hop o ho, nofun⟩,
      harb, hmbx, hctr, fun _ => hroot, nofun⟩, hb⟩

theorem fetchStep {r : State × FetchEnd} (hs : InTransaction s) (h : fetchStep s e = .ok r) : InTransaction r.1 := by
  refine ⟨slotInv_fetchStep hs.slotInv h, ?_⟩
  rcases fetchStep_ok h with rfl | ⟨st, -, ⟨-, rfl⟩ | ⟨f, rest, -, ⟨-, p, -, rfl⟩ | ⟨-, -, h⟩⟩⟩
  · exact hs.busy
  · exact hs.busy
  · obtain ⟨n, g, heq⟩ := fetchTake_frame s st f rest p
    rw [heq]; exact hs.busy
  · obtain ⟨-, rfl⟩ := fetchIssue_ok h
    nofun

theorem xcvS3gApply (hs : InTransaction s) (h : xcvS3gApply s = .ok t) : InTransaction t := by
  unfold Machine.xcvS3gApply at h
  obtain ⟨r, -, h⟩ := bind_ok.1 h
  have happ := hs.applyLinkParams r
  split at h
  · next hd =>
    cases h
    simp only [Bool.and_eq_true, Option.isNone_iff_eq_none] at hd
    exact happ.beginRefresh hd.2
  · cases h
    exact happ.gotoVars (by decide) happ.pendingFrameSize_ok

theorem xcvS3gRefresh (hs : InTransaction s) (h : xcvS3gRefresh s e = .ok t) : InTransaction t := by
  unfold Machine.xcvS3gRefresh at h
  obtain ⟨r, hr, h⟩ := bind_ok.1 h
  have hr := hs.fetchStep hr
  have hend := hr.endRefresh
  split at h <;> cases h
  · exact hr
  · exact hend.gotoVars (by decide) hend.pendingFrameSize_ok
  · exact hend.toFail _

theorem xcvRetx (hs : InTransaction s) (h : xcvRetx s e = .ok t) : InTransaction t := by
  have htarget : ∀ c, retxTarget c ≠ .idle := fun c => by unfold retxTarget; split <;> decide
  have hvars := hs.setVars (v := { s.vars with retxUsed := true, retxPass := true }) hs.pendingFrameSize_ok
  unfold Machine.xcvRetx at h
  dsimp only at h
  split at h
  · obtain ⟨r, hr, h⟩ := bind_ok.1 h
    cases h
    exact (hvars.exchange hr).afterExchange fun w hw => hw.goto _ (htarget _)
  · cases h; exact hvars.goto _ (htarget _)

end InTransaction

theorem slotInv_xcvDone (hs : SlotInv s) (h : xcvDone s = .ok t) : SlotInv t := by
  unfold xcvDone at h
  obtain ⟨m, -, h⟩ := bind_ok.1 h
  obtain ⟨u, hu, h⟩ := bind_ok.1 h
  cases h
  have hu := slotInv_memWrite hs hu
  have hlen : SlotInv { u with respLen := m.length } := hu
  exact slotInv_returnXchg hlen _

theorem slotInv_xcvStep (hs : SlotInv s) (h : xcvStep s e = .ok t) : SlotInv t := by
  unfold xcvStep at h
  by_cases hidle : s.xcvState = .idle
  · rw [hidle] at h
    cases h
    exact hs
  · have hin : InTransaction s := ⟨hs, hidle⟩
    cases hx : s.xcvState <;> rw [hx] at h
    case idle => exact absurd hx hidle
    case s1Check => exact (hin.xcvS1Check h).slotInv
    case s2Send => exact (hin.xcvS2Send h).slotInv
    case s3aWait => cases h; exact (hin.xcvS3aWait e).slotInv
    case s3bPoll => exact (hin.xcvS3bPoll h).slotInv
    case s3bSidewait => cases h; exact (hin.xcvS3bSidewait e).slotInv
    case s3bSide => exact (hin.xcvS3bSide h).slotInv
    case s3cValidate => exact (hin.xcvS3cValidate h).slotInv
    case s3dAck => exact (hin.xcvS3dAck h).slotInv
    case s3eType => exact (hin.xcvS3eType h).slotInv
    case s3fWaitdir => exact (hin.xcvS3fWaitdir h).slotInv
    case s3gApply => exact (hin.xcvS3gApply h).slotInv
    case s3gRefresh => exact (hin.xcvS3gRefresh h).slotInv
    case retx => exact (hin.xcvRetx h).slotInv
    case done => exact slotInv_xcvDone hs h
    case fail => cases h; exact slotInv_returnXchg (slotInv_countError hs) _

/-! What a step keeps of a slot: its `slot_id`, whatever its state, and the invariant. The command port and the worker
are followed once for both. -/

/-- A change of a slot that keeps its `slot_id`, and its invariant. -/
structure KeepsSlot (s t : State) : Prop where
  slotId : t.slotId = s.slotId
  slotInv : SlotInv s → SlotInv t

namespace KeepsSlot

theorem rfl' (s : State) : KeepsSlot s s := ⟨rfl, id⟩

theorem trans {u : State} (h : KeepsSlot s t) (k : KeepsSlot t u) : KeepsSlot s u :=
  ⟨k.slotId.trans h.slotId, fun hs => k.slotInv (h.slotInv hs)⟩

theorem answer {st : Status} {d : List Byte} (h : KeepsSlot s t) : KeepsSlot s (t.answer st d) := ⟨h.slotId, h.slotInv⟩

theorem goWorker {w : WorkerPos} (h : KeepsSlot s t) : KeepsSlot s (t.goWorker w) := ⟨h.slotId, h.slotInv⟩

end KeepsSlot

theorem keepsSlot_storeFrame (h : storeFrame s v = .ok t) : KeepsSlot s t :=
  ⟨(storeFrame_outside h).slotId, fun hs => slotInv_storeFrame hs h⟩

theorem keepsSlot_postMailbox {d : List Byte} {r : State × Status} (h : postMailbox s d = .ok r) : KeepsSlot s r.1 := by
  refine ⟨?_, fun hs => slotInv_postMailbox hs h⟩
  rcases postMailbox_ok h with ⟨-, rfl⟩ | ⟨-, rfl⟩ | ⟨-, -, -, rfl⟩ <;> rfl

theorem keepsSlot_releaseBg (h : releaseBg s = .ok t) : KeepsSlot s t := by
  refine ⟨?_, fun hs => slotInv_releaseBg hs h⟩
  obtain ⟨-, -, rfl⟩ := releaseBg_ok h
  rfl

theorem keepsSlot_clearMailbox (s : State) : KeepsSlot s (clearMailbox s) := ⟨rfl, slotInv_clearMailbox⟩

theorem keepsSlot_goneMailbox (s : State) : KeepsSlot s (goneMailbox s) := ⟨rfl, slotInv_goneMailbox⟩

theorem keepsSlot_linkReset (s : State) : KeepsSlot s (linkReset s) := ⟨rfl, slotInv_linkReset⟩

theorem keepsSlot_clearStats (s : State) : KeepsSlot s (clearStats s) := ⟨rfl, slotInv_clearStats⟩

theorem keepsSlot_acquireBg (hi : SlotInv s → s.linkOwner = .none → s.xcvState = .idle) : KeepsSlot s (acquireBg s).1 :=
  ⟨by unfold acquireBg; split <;> rfl, fun hs => slotInv_acquireBg hs (hi hs)⟩

/-! The command port. -/

theorem keepsSlot_frmEnc (h : execFrmEnc s = .next t) : KeepsSlot s t := by
  unfold execFrmEnc at h
  split at h
  · split at h
    · cases h; exact (KeepsSlot.rfl' s).answer
    · obtain ⟨u, hu, rfl⟩ := map_ok.1 (outcome_next.1 h)
      exact (keepsSlot_storeFrame hu).answer
  · cases h

theorem keepsSlot_frmVal (h : execFrmVal s = .next t) : KeepsSlot s t := by
  unfold execFrmVal at h
  split at h <;> cases h
  exact (KeepsSlot.rfl' s).answer

theorem keepsSlot_frmDec (h : execFrmDec s = .next t) : KeepsSlot s t := by
  unfold execFrmDec at h
  split at h
  · split at h <;> cases h <;> exact (KeepsSlot.rfl' s).answer
  · cases h

/-- An issuer that R191 (b) does not refuse may use the link; the poller in `Failed` is the exception (U14). -/
theorem mayUseLink_of_linkRefusal (h : linkRefusal s = none) (hf : ¬ (s.portCls = .bg ∧ s.connState = .failed)) :
    mayUseLink s (.port s.portCls s.portAgent) = true := by
  unfold linkRefusal at h
  cases hc : s.portCls with
  | fg =>
    simp only [hc, ite_eq_left_iff, reduceCtorEq, imp_false, not_not] at h
    simpa [mayUseLink] using h
  | bg =>
    simp only [hc] at h
    split at h
    · cases h
    · next hconn =>
      split at h
      · cases h
      · next hown =>
        have hconn : s.connState = .connected := by
          by_contra hne
          exact hconn ⟨hne, fun hx => hf ⟨hc, hx⟩⟩
        simp [mayUseLink, hconn, not_not.1 hown]
  | worker =>
    simp only [hc] at h
    split at h
    · cases h
    · next hconn =>
      split at h
      · cases h
      · next hown => simp [mayUseLink, not_not.1 hconn, not_not.1 hown]
  | consumer => simp [hc] at h

theorem keepsSlot_xcvXchg (h : execXcvXchg s = .next t) : KeepsSlot s t := by
  unfold execXcvXchg at h
  split at h
  · cases h
  · next hmay =>
    split at h
    · cases h
    · split at h
      · cases h
      · split at h <;> cases h
        · exact ⟨rfl, slotInv_countError⟩
        · next hf => exact ⟨rfl, fun hs => slotInv_startXchg hs (fun _ => mayUseLink_of_linkRefusal hmay hf) _⟩

theorem keepsSlot_arbAcqFg {nb : Bool} (h : execArbAcqFg nb s = .next t) : KeepsSlot s t := by
  unfold execArbAcqFg at h
  split at h
  · cases h
  · split at h
    · cases h
    · split at h
      · cases h
      · next hwait =>
        split at h <;> cases h
        refine ⟨?_, fun hs => slotInv_admitFg hs (by simpa using hwait) nb⟩
        unfold admitFg
        repeat' split
        all_goals rfl

theorem keepsSlot_arbRelFg (h : execArbRelFg s = .next t) : KeepsSlot s t := by
  unfold execArbRelFg at h
  split at h
  · cases h
  · split at h
    · cases h
    · next hown =>
      split at h <;> cases h
      next hidle =>
        have hrel : KeepsSlot s (releaseFg s) :=
          ⟨rfl, fun hs => slotInv_releaseFg hs (not_not.1 hown).1 (not_not.1 hidle)⟩
        exact hrel.answer

theorem keepsSlot_arbAcqBg (h : execArbAcqBg s = .next t) : KeepsSlot s t := by
  unfold execArbAcqBg at h
  split at h
  · cases h
  · split at h
    · cases h; exact (KeepsSlot.rfl' s).answer
    · split at h <;> cases h
      next hc => exact (keepsSlot_acquireBg fun hs => idle_of_connected_unowned hs (not_not.1 hc)).answer

theorem keepsSlot_arbRelBg (h : execArbRelBg s = .next t) : KeepsSlot s t := by
  unfold execArbRelBg at h
  split at h
  · cases h
  · split at h
    · cases h
    · obtain ⟨u, hu, rfl⟩ := map_ok.1 (outcome_next.1 h)
      split
      · exact (KeepsSlot.rfl' s).answer
      · exact (keepsSlot_releaseBg hu).answer

theorem keepsSlot_mbxClr (h : execMbxClr s = .next t) : KeepsSlot s t := by
  unfold execMbxClr at h
  repeat' split at h
  all_goals cases h
  exact (keepsSlot_clearMailbox s).answer

theorem keepsSlot_mbxPost (h : execMbxPost s = .next t) : KeepsSlot s t := by
  unfold execMbxPost at h
  split at h
  · cases h
  · split at h
    · cases h
    · split at h
      · split at h
        · cases h; exact (KeepsSlot.rfl' s).answer
        · obtain ⟨r, hr, rfl⟩ := map_ok.1 (outcome_next.1 h)
          exact (keepsSlot_postMailbox hr).answer
      · cases h

theorem keepsSlot_takeEnter (nb : Bool) (s : State) : KeepsSlot s (takeEnter nb s) := by
  unfold takeEnter
  split
  · split
    · exact (KeepsSlot.rfl' s).answer
    · split
      · exact (KeepsSlot.rfl' s).answer
      · exact ⟨rfl, id⟩
  · exact ⟨rfl, fun hs => slotInv_enterMailbox hs _ _⟩

theorem keepsSlot_mbxTake {nb : Bool} (h : execMbxTake nb s = .next t) : KeepsSlot s t := by
  unfold execMbxTake at h
  repeat' split at h
  all_goals cases h
  · exact (KeepsSlot.rfl' s).answer
  · exact keepsSlot_takeEnter nb s

theorem keepsSlot_mbxGone (h : execMbxGone s = .next t) : KeepsSlot s t := by
  unfold execMbxGone at h
  repeat' split at h
  all_goals cases h
  exact (keepsSlot_goneMailbox s).answer

theorem keepsSlot_lnkRst (h : execLnkRst s = .next t) : KeepsSlot s t := by
  unfold execLnkRst at h
  repeat' split at h
  all_goals cases h
  exact (keepsSlot_linkReset s).answer

theorem keepsSlot_statClr (h : execStatClr s = .next t) : KeepsSlot s t := by
  unfold execStatClr at h
  repeat' split at h
  all_goals cases h
  exact (keepsSlot_clearStats s).answer

theorem keepsSlot_exec {i : Instr} (h : exec i s = .next t) : KeepsSlot s t := by
  cases i with
  | crcClr => cases h; exact ⟨rfl, id⟩
  | crcByte bb =>
    replace h : execCrcByte bb s = .next t := h
    unfold execCrcByte at h
    split at h <;> cases h
    exact ⟨rfl, id⟩
  | crcRd =>
    replace h : execCrcRd s = .next t := h
    unfold execCrcRd at h
    split at h <;> cases h
    exact (KeepsSlot.rfl' s).answer
  | frmEnc => exact keepsSlot_frmEnc h
  | frmVal => exact keepsSlot_frmVal h
  | frmDec => exact keepsSlot_frmDec h
  | xcvXchg => exact keepsSlot_xcvXchg h
  | arbAcqFg nb => exact keepsSlot_arbAcqFg h
  | arbRelFg => exact keepsSlot_arbRelFg h
  | arbAcqBg => exact keepsSlot_arbAcqBg h
  | arbRelBg => exact keepsSlot_arbRelBg h
  | mbxClr => exact keepsSlot_mbxClr h
  | mbxPost => exact keepsSlot_mbxPost h
  | mbxTake nb => exact keepsSlot_mbxTake h
  | mbxGone => exact keepsSlot_mbxGone h
  | lnkRst => exact keepsSlot_lnkRst h
  | statClr => exact keepsSlot_statClr h
  | statRd k => cases h; exact (KeepsSlot.rfl' s).answer

/-! The worker. While it is not blocked the sequencer is idle, or a foreground requester's transaction runs, which
depends on no connection state (R191 (b), log 13). -/

theorem fgRoot_of_unblocked (hb : workerBlocked s = false) (hx : s.xcvState ≠ .idle) :
    ∃ a, s.rootCaller = .port .fg a := by
  unfold workerBlocked at hb
  simp only [hx, ne_eq, not_false_eq_true, decide_true, Bool.true_and] at hb
  split at hb
  · exact ⟨_, ‹_›⟩
  all_goals cases hb

theorem keepsSlot_setConn (hb : workerBlocked s = false) (c : ConnState) : KeepsSlot s { s with connState := c } := by
  refine ⟨rfl, fun hs => ?_⟩
  obtain ⟨hw, hbuf, hlp, harb, hmbx, hctr, hroot, hout⟩ := hs
  refine ⟨hw, hbuf, hlp, harb, hmbx, hctr, fun hx => ?_, hout⟩
  obtain ⟨a, ha⟩ := fgRoot_of_unblocked hb hx
  have hmay := hroot hx
  rw [ha] at hmay
  have hsame : ({ s with connState := c } : State).rootCaller = .port .fg a := ha
  rw [hsame]
  exact hmay

/-- While the worker is not blocked, a link without owner carries no transaction. -/
theorem idle_of_unblocked_unowned (hb : workerBlocked s = false) (hs : SlotInv s) (ho : s.linkOwner = .none) :
    s.xcvState = .idle := by
  obtain ⟨-, -, -, -, -, -, hroot, -⟩ := hs
  by_contra hx
  obtain ⟨a, ha⟩ := fgRoot_of_unblocked hb hx
  have hmay := hroot hx
  simp [ha, mayUseLink, ho] at hmay

/-- The waiting requesters are marked: they are as many as before, and the same agents. -/
theorem keepsSlot_markWaiters (s : State) :
    KeepsSlot s { s with fgWaiters := s.fgWaiters.map fun w => { w with gone := true } } := by
  refine ⟨rfl, fun hs => ?_⟩
  have ⟨hint, hn⟩ := arbiterOk_of_slotInv hs
  exact slotInv_setWaiters hs (by simpa using hint) (by simpa [Function.comp_def] using hn)

theorem keepsSlot_leaveConnected (hb : workerBlocked s = false) (c : ConnState) : KeepsSlot s (leaveConnected s c) :=
  (keepsSlot_setConn hb c).trans (keepsSlot_markWaiters _)

theorem keepsSlot_beginStop (s : State) : KeepsSlot s (beginStop s) := by
  rw [beginStop_eq]
  exact ⟨rfl, id⟩

theorem keepsSlot_abandonConnect (s : State) : KeepsSlot s (abandonConnect s) := by
  rw [abandonConnect_eq]
  exact ⟨rfl, id⟩

theorem keepsSlot_clearStatsByPolicy (s : State) : KeepsSlot s (clearStatsByPolicy s) := by
  unfold clearStatsByPolicy
  split
  · exact keepsSlot_clearStats s
  · exact .rfl' s

theorem keepsSlot_allocFailure (hb : workerBlocked s = false) : KeepsSlot s (allocFailure s) := by
  rcases allocFailure_cases s with ⟨-, h⟩ | ⟨-, h⟩
  · exact h ▸ (KeepsSlot.rfl' s).goWorker
  · have hfailed := keepsSlot_setConn hb .failed
    exact h ▸ ⟨rfl, hfailed.slotInv⟩

theorem keepsSlot_fetchStep {r : State × FetchEnd} (h : fetchStep s e = .ok r) : KeepsSlot s r.1 :=
  ⟨(fetchStep_outside h).slotId, fun hs => slotInv_fetchStep hs h⟩

theorem keepsSlot_readyWait (s : State) (w : Option Nat) (x : ReadyAnswer) : KeepsSlot s (readyWait s w x).1 := by
  rw [readyWait_state]
  exact ⟨rfl, id⟩

theorem keepsSlot_workerDebounce (hb : workerBlocked s = false) (seen : Nat) :
    KeepsSlot s (workerDebounce s e seen) := by
  unfold workerDebounce
  split
  · exact keepsSlot_beginStop s
  · split
    · split
      · exact (keepsSlot_setConn hb .initiating).goWorker
      · exact (KeepsSlot.rfl' s).goWorker
    · exact (KeepsSlot.rfl' s).goWorker

theorem keepsSlot_workerConnReset (s : State) : KeepsSlot s (workerConnReset s) := by
  unfold workerConnReset
  split
  · exact keepsSlot_beginStop s
  · split
    · exact (keepsSlot_linkReset s).goWorker
    · exact .rfl' s

theorem keepsSlot_workerConnMailbox (s : State) : KeepsSlot s (workerConnMailbox s) := by
  unfold workerConnMailbox
  split
  · exact keepsSlot_beginStop s
  · split
    · exact (keepsSlot_clearMailbox s).goWorker
    · exact .rfl' s

theorem keepsSlot_workerConnFetching (h : workerConnFetching s e = .ok t) : KeepsSlot s t := by
  unfold workerConnFetching at h
  split at h
  · cases h; exact keepsSlot_abandonConnect s
  · obtain ⟨r, hr, h⟩ := bind_ok.1 h
    have hr := keepsSlot_fetchStep hr
    split at h <;> cases h
    · exact hr
    · exact hr.goWorker
    · exact hr.goWorker

theorem keepsSlot_workerConnRegister (hb : workerBlocked s = false) : KeepsSlot s (workerConnRegister s e) := by
  unfold workerConnRegister
  split
  · exact ⟨rfl, id⟩
  · exact (keepsSlot_setConn hb .failed).goWorker

/-- The probe is issued in `Initiating` on a link without owner (R353, R191). -/
theorem keepsSlot_workerProbe {tries : Nat} (h : workerProbe s tries = .ok t) : KeepsSlot s t := by
  unfold workerProbe at h
  split at h
  · cases h; exact keepsSlot_abandonConnect s
  · obtain ⟨_, hc, h⟩ := bind_ok.1 h
    obtain ⟨_, ho, h⟩ := bind_ok.1 h
    obtain ⟨_, -, h⟩ := bind_ok.1 h
    cases h
    have hmay : mayUseLink s .probe = true := by simp [mayUseLink, require_ok.1 hc, require_ok.1 ho]
    exact KeepsSlot.goWorker ⟨rfl, fun hs => slotInv_startXchg hs (fun _ => hmay) _⟩

theorem keepsSlot_workerProbing (s : State) (tries : Nat) : KeepsSlot s (workerProbing s tries) := by
  unfold workerProbing
  split
  · exact .rfl' s
  · split
    · exact keepsSlot_abandonConnect s
    · dsimp only
      repeat' split
      all_goals exact ⟨rfl, id⟩

theorem keepsSlot_workerConnDownStat (s : State) : KeepsSlot s (workerConnDownStat s) := by
  unfold workerConnDownStat
  split
  · exact keepsSlot_abandonConnect s
  · exact (keepsSlot_clearStatsByPolicy s).goWorker

theorem keepsSlot_workerPollWait (s : State) (e : Env) : KeepsSlot s (workerPollWait s e) := by
  have hwait := keepsSlot_readyWait s s.cfg.tPoll e.ready
  unfold workerPollWait
  dsimp only
  split
  · exact hwait.trans (keepsSlot_beginStop _)
  · split
    · exact hwait
    · exact hwait.goWorker

theorem keepsSlot_workerPollTest (s : State) : KeepsSlot s (workerPollTest s) := by
  unfold workerPollTest
  split
  · exact ⟨rfl, slotInv_countNotificationFailed⟩
  · exact (KeepsSlot.rfl' s).goWorker

theorem keepsSlot_workerPollAcquire (hb : workerBlocked s = false) : KeepsSlot s (workerPollAcquire s) := by
  have hacq := keepsSlot_acquireBg (idle_of_unblocked_unowned hb)
  unfold workerPollAcquire
  split
  · exact keepsSlot_beginStop s
  · split
    · next heq => rw [heq] at hacq; exact hacq.goWorker
    · next heq => rw [heq] at hacq; exact hacq

/-- The pull is issued while `Connected`, under the poller's ownership (R343, R191). -/
theorem keepsSlot_workerPollExchange (h : workerPollExchange s = .ok t) : KeepsSlot s t := by
  unfold workerPollExchange at h
  obtain ⟨_, hc, h⟩ := bind_ok.1 h
  obtain ⟨_, ho, h⟩ := bind_ok.1 h
  obtain ⟨_, -, h⟩ := bind_ok.1 h
  obtain ⟨_, -, h⟩ := bind_ok.1 h
  cases h
  have hmay : mayUseLink s .poller = true := by simp [mayUseLink, require_ok.1 hc, require_ok.1 ho]
  exact KeepsSlot.goWorker ⟨rfl, fun hs => slotInv_startXchg hs (fun _ => hmay) _⟩

theorem keepsSlot_workerPollAwait (s : State) : KeepsSlot s (workerPollAwait s) := by
  unfold workerPollAwait
  split
  · exact .rfl' s
  · exact ⟨rfl, id⟩

theorem keepsSlot_workerPollAct {r : Reply} (h : workerPollAct s e r = .ok t) : KeepsSlot s t := by
  unfold workerPollAct at h
  split at h
  · obtain ⟨u, hu, rfl⟩ := map_ok.1 h
    exact (keepsSlot_postMailbox hu).goWorker
  · split at h <;> cases h <;> exact (KeepsSlot.rfl' s).goWorker

theorem keepsSlot_workerFailed (s : State) : KeepsSlot s (workerFailed s) := by
  unfold workerFailed
  split
  · exact keepsSlot_beginStop s
  · exact .rfl' s

theorem keepsSlot_workerStopDrain (s : State) : KeepsSlot s (workerStopDrain s) := by
  unfold workerStopDrain
  split <;> exact ⟨rfl, id⟩

theorem keepsSlot_workerAdvance (hb : workerBlocked s = false) (h : workerAdvance s e = .ok t) : KeepsSlot s t := by
  unfold workerAdvance at h
  generalize s.worker = w at h
  cases w with
  | debounce seen => cases h; exact keepsSlot_workerDebounce hb seen
  | connStat => cases h; exact (keepsSlot_clearStats s).goWorker
  | connReset => cases h; exact keepsSlot_workerConnReset s
  | connMailbox => cases h; exact keepsSlot_workerConnMailbox s
  | connFetch => cases h; exact ⟨rfl, id⟩
  | connFetching => exact keepsSlot_workerConnFetching h
  | connRegister => cases h; exact keepsSlot_workerConnRegister hb
  | connUpStat => cases h; exact (keepsSlot_clearStatsByPolicy s).goWorker
  | connUp => cases h; exact ⟨rfl, (keepsSlot_setConn hb .connected).slotInv⟩
  | probe tries => exact keepsSlot_workerProbe h
  | probing tries => cases h; exact keepsSlot_workerProbing s tries
  | connBackoff => cases h; exact ⟨rfl, id⟩
  | connDownStat => cases h; exact keepsSlot_workerConnDownStat s
  | connDown => cases h; exact (keepsSlot_setConn hb .disconnected).goWorker
  | pollWait => cases h; exact keepsSlot_workerPollWait s e
  | pollTest => cases h; exact keepsSlot_workerPollTest s
  | pollAcquire => cases h; exact keepsSlot_workerPollAcquire hb
  | pollExchange => exact keepsSlot_workerPollExchange h
  | pollAwait => cases h; exact keepsSlot_workerPollAwait s
  | pollRelease r =>
    obtain ⟨u, hu, rfl⟩ := map_ok.1 h
    exact (keepsSlot_releaseBg hu).goWorker
  | pollAct r => exact keepsSlot_workerPollAct h
  | leaveUnregister => cases h; exact ⟨rfl, id⟩
  | leaveGone => cases h; exact (keepsSlot_goneMailbox s).goWorker
  | leaveStat => cases h; exact (keepsSlot_clearStatsByPolicy s).goWorker
  | leaveDown => cases h; exact (keepsSlot_leaveConnected hb .disconnected).goWorker
  | failUnregister => cases h; exact ⟨rfl, id⟩
  | failGone => cases h; exact (keepsSlot_goneMailbox s).goWorker
  | failDown => cases h; exact (keepsSlot_leaveConnected hb .failed).goWorker
  | failed => cases h; exact keepsSlot_workerFailed s
  | stopUnregister => cases h; exact ⟨rfl, id⟩
  | stopGone => cases h; exact (keepsSlot_goneMailbox s).goWorker
  | stopDrain => cases h; exact keepsSlot_workerStopDrain s
  | ended => cases h; exact .rfl' s

theorem keepsSlot_workerStep (h : workerStep s e = .ok t) : KeepsSlot s t := by
  rcases workerStep_ok h with ⟨-, rfl⟩ | ⟨hb, -, -, rfl⟩ | ⟨hb, -, h⟩
  · exact .rfl' _
  · exact keepsSlot_allocFailure hb
  · exact keepsSlot_workerAdvance hb h

/-! The step. -/

theorem keepsSlot_applyInput {x : Input} (h : applyInput s x = .ok t) : KeepsSlot s t := by
  cases x with
  | command c => cases h; exact .rfl' s
  | xcv e => exact ⟨(xcvStep_outside h).slotId, fun hs => slotInv_xcvStep hs h⟩
  | worker e => exact keepsSlot_workerStep h
  | fgTurn a => cases h; exact ⟨(congrArg State.slotId (fgTurn_frame s a) :), fun hs => slotInv_fgTurn hs a⟩
  | fgTimeout a =>
    cases h
    refine ⟨?_, fun hs => slotInv_fgTimeout hs a⟩
    unfold fgTimeout; split <;> rfl
  | consumerTurn a => exact ⟨(congrArg State.slotId (consumerTurn_frame h) :), fun hs => slotInv_consumerTurn hs h⟩
  | interrupt c a =>
    cases c with
    | fg =>
      cases h
      refine ⟨?_, fun hs => slotInv_fgInterrupt hs a⟩
      unfold fgInterrupt; split <;> rfl
    | bg => cases h; exact .rfl' s
    | worker => cases h; exact .rfl' s
    | consumer =>
      cases h
      refine ⟨?_, fun hs => slotInv_consumerInterrupt hs a⟩
      unfold consumerInterrupt
      repeat' split
      all_goals rfl
  | readyEdge => cases h; exact ⟨rfl, id⟩
  | stopSet => cases h; exact ⟨rfl, id⟩
  | allocFailure => cases h; exact ⟨rfl, id⟩

/-- A step takes its input, accepts a command's operands, and then acts: each keeps the slot. -/
theorem keepsSlot_step (h : step s = .next t) : KeepsSlot s t := by
  have hinput (rest : List Input) : KeepsSlot s { s with inputs := rest } := ⟨rfl, id⟩
  have haccept (rest : List Input) (c : Command) : KeepsSlot s (acceptCommand { s with inputs := rest } c) := ⟨rfl, id⟩
  obtain ⟨-, -, h⟩ := step_cases h
  rcases h with ⟨-, rfl⟩ | ⟨c, rest, i, -, -, h⟩ | ⟨c, rest, _, -, -, rfl⟩ | ⟨x, rest, -, -, h⟩
  · exact .rfl' _
  · exact (haccept rest c).trans (keepsSlot_exec h)
  · exact (haccept rest c).answer
  · exact (hinput rest).trans (keepsSlot_applyInput h)

/-- Settles O58: what each input does to a slot keeps the invariant. -/
theorem stepKeepsInvariant : Obligations.StepKeepsInvariant := fun _ _ hs h => (keepsSlot_step h).slotInv hs

/-! Several slots. -/

/-- The startup has the slot of each configured id (R441), the ids being distinct. -/
theorem slot_startup_of_mem {slots : List (Nat × Config)} (hn : (slots.map Prod.fst).Nodup) {id : Nat} {c : Config}
    (h : (id, c) ∈ slots) : (System.startup slots).slot id = some (State.resetWith c id) := by
  induction slots with
  | nil => cases h
  | cons p rest ih =>
    obtain ⟨hp, hn⟩ := List.nodup_cons.1 hn
    rcases List.mem_cons.1 h with rfl | h
    · simp [System.startup, System.slot]
    · have hne : p.1 ≠ id := fun he => hp (he ▸ List.mem_map_of_mem (f := Prod.fst) h)
      simpa [System.startup, System.slot, hne] using ih hn h

theorem slot_eq_none {y : System} {id : Nat} (h : id ∉ y.ids) : y.slot id = none := by
  induction y with
  | nil => rfl
  | cons p rest ih =>
    simp only [System.ids, List.map_cons, List.mem_cons, not_or] at h
    simpa [System.slot, Ne.symm h.1] using ih h.2

theorem startup_ids (slots : List (Nat × Config)) : (System.startup slots).ids = slots.map Prod.fst := by
  simp [System.startup, System.ids, Function.comp_def]

theorem startup_wf {slots : List (Nat × Config)} (hn : (slots.map Prod.fst).Nodup) : (System.startup slots).wf := by
  refine ⟨(startup_ids slots).symm ▸ hn, fun p hp => ?_⟩
  obtain ⟨q, -, rfl⟩ := List.mem_map.1 hp
  rfl

/-- A slot replaced by one of the same `slot_id` goes on being identified by its id. -/
theorem setSlot_wf {y : System} {id : Nat} (hy : y.wf) (hs : y.slot id = some s) (hid : t.slotId = s.slotId) :
    (y.setSlot id t).wf := by
  refine ⟨(setSlot_ids y id t).symm ▸ hy.1, ?_⟩
  obtain ⟨-, hy⟩ := hy
  induction y with
  | nil => exact hy
  | cons p rest ih =>
    obtain ⟨k, u⟩ := p
    rw [List.forall_mem_cons] at hy
    by_cases hk : k = id
    · simp only [System.slot, hk, if_true, Option.some.injEq] at hs
      subst hs
      simp only [System.setSlot, hk, if_true, List.forall_mem_cons]
      exact ⟨hid.trans (hy.1.trans hk), hy.2⟩
    · simp only [System.slot, if_neg hk] at hs
      simp only [System.setSlot, if_neg hk, List.forall_mem_cons]
      exact ⟨hy.1, ih hs hy.2⟩

/-- A step of one slot, where it has a next state, is the step of the system. -/
theorem stepSlot_of_step {y : System} {id : Nat} (hs : y.slot id = some s) (h : step s = .next t) :
    System.stepSlot y id = .next (y.setSlot id t) := by
  simp [System.stepSlot, hs, h]

/-- Settles O60: the startup by its mapping of ids, the step by what a replaced slot leaves alone. -/
theorem slotsAreIsolated : Obligations.SlotsAreIsolated := by
  refine ⟨fun slots hn => ⟨startup_wf hn, startup_ids slots, fun id c h => slot_startup_of_mem hn h,
    fun id h => slot_eq_none ((startup_ids slots).symm ▸ h)⟩, fun y z id h => ?_, fun y id s t hs h =>
    ⟨_, stepSlot_of_step hs h, slot_setSlot_self t hs⟩⟩
  rcases stepSlot_next h with ⟨hnone, rfl⟩ | ⟨s, t, hs, hstep, rfl⟩
  · exact ⟨fun _ _ => rfl, fun s hs => absurd (hs.symm.trans hnone) (by simp), rfl, fun hy => hy⟩
  · refine ⟨fun k hk => slot_setSlot_of_ne y t hk, fun u hu => ?_, setSlot_ids y id t,
      fun hy => setSlot_wf hy hs (keepsSlot_step hstep).slotId⟩
    obtain rfl : s = u := Option.some.inj (hs.symm.trans hu)
    exact ⟨t, hstep, slot_setSlot_self t hs⟩

end Sys2Proof.Laws


/-! PROOFS. No step reads a buffer byte that nothing has written (R73). A computation is followed by `Safe`, one rule for
each way the model composes one; then every step of the transceiver is safe where what it reads has been written, and leaves
written what the next one reads. The other steps leave the sequencer's buffers, or only write more of them. -/

namespace Sys2Proof.Laws

open Sys2Proof.Machine

variable {s t : State} {e : Env} {b : BufName} {m : Memory} {v : List Byte} {off n k : Nat}

/-! What has been written stays written. -/

theorem written_iff : written m n ↔ ∀ a < n, (m.get a).isSome = true := by simp [written]

theorem written_of_le (h : written m n) (hk : k ≤ n) : written m k :=
  written_iff.2 fun a ha => written_iff.1 h a (by omega)

/-- A write from the start of a buffer has written as many bytes as it was given. -/
theorem written_write_self (h : n ≤ v.length) : written (m.write 0 v) n :=
  written_iff.2 fun a ha => by
    have hav : a < v.length := by omega
    rw [get_write, if_pos (by omega)]
    simp [hav]

theorem written_write (h : written m n) : written (m.write off v) n :=
  written_iff.2 fun a ha => by
    rw [get_write]
    split
    · next hin =>
      have hav : a - off < v.length := by omega
      simp [hav]
    · exact written_iff.1 h a ha

theorem exists_read_of_written (h : written m n) : ∃ v, m.read 0 n = some v :=
  Option.isSome_iff_exists.1 ((read_isSome_iff m 0 n).2 fun i hi => by simpa using written_iff.1 h i hi)

theorem written_of_read (h : m.read 0 n = some v) : written m n :=
  written_iff.2 fun a ha => by simpa using (read_isSome_iff m 0 n).1 (by simp [h]) a ha

/-- A shorter read of the same bytes answers the first of them. -/
theorem read_eq_take (h : m.read 0 n = some v) (hk : k ≤ n) : m.read 0 k = some (v.take k) := by
  obtain ⟨hlen, hget⟩ := (read_eq_some_iff m 0 n v).1 h
  refine (read_eq_some_iff m 0 k _).2 ⟨by simp; omega, fun i hi => ?_⟩
  rw [List.getElem_take]
  exact hget i (by simp at hi; omega)

theorem lengthOk_iff {n : Nat} {f : List Byte} : lengthOk n f = true ↔ 4 ≤ lengthField f ∧ lengthField f ≤ n - 2 := by
  simp only [lengthOk, Bool.and_eq_true, decide_eq_true_eq]
  exact Iff.rfl

theorem lengthOk_of_check {c : Config} (h : check c n v = true) : lengthOk n v = true := by
  by_contra hbad
  simp only [check, validateFrame, hbad] at h
  split at h <;> cases h

/-- A message of a valid frame has been written, within the frame's capacity for one (R168). -/
theorem holdsMessage_of_check {c : Config} (h : m.read 0 n = some v) (hc : check c n v = true) :
    holdsMessage m (n - 2) := by
  obtain ⟨hmin, hmax⟩ := lengthOk_iff.1 (lengthOk_of_check hc)
  have hw : written m n := written_of_read h
  refine ⟨written_of_le hw (by simp only [headerSize]; omega), fun hd hhd => ?_⟩
  have hd_eq : hd = v.take 4 := Option.some.inj (hhd.symm.trans (read_eq_take h (show 4 ≤ n by omega)))
  have hfield : lengthField hd = lengthField v := by simp [hd_eq, lengthField, be16, byteAt]
  exact ⟨by omega, written_of_le hw (by omega)⟩

theorem holdsMessage_of_le (h : holdsMessage m n) (hk : n ≤ k) : holdsMessage m k :=
  ⟨h.1, fun hd hhd => ⟨(h.2 hd hhd).1.trans hk, (h.2 hd hhd).2⟩⟩

/-- A frame has at least `frame_size` bytes (R100). -/
theorem le_length_frameOf (c : Config) (n : Nat) (v : List Byte) : n ≤ (frameOf c n v).length := by
  have htrailer : ∀ w, (trailer c w).length = 2 := fun w => by unfold trailer; split <;> rfl
  simp only [frameOf, frameBody, List.length_append, List.length_replicate, htrailer]
  omega

/-! Safe computations. -/

/-- A computation that reads no unwritten byte, and whose answer, where it has one, meets `P`. -/
structure Safe {α : Type} (r : Res α) (P : α → Prop) : Prop where
  noFault : ∀ f, r ≠ .error (.fault f)
  post : ∀ a, r = .ok a → P a

namespace Safe

variable {α β : Type} {r : Res α} {P Q : α → Prop}

theorem ok {a : α} (h : P a) : Safe (.ok a) P := ⟨nofun, fun _ ha => by cases ha; exact h⟩

theorem refuse (x : Refusal) : Safe (.error (.refuse x)) P := ⟨nofun, nofun⟩

theorem mono (h : Safe r P) (hPQ : ∀ a, P a → Q a) : Safe r Q := ⟨h.noFault, fun a ha => hPQ a (h.post a ha)⟩

theorem bind {f : α → Res β} {R : β → Prop} (h : Safe r P) (hf : ∀ a, P a → Safe (f a) R) : Safe (r >>= f) R := by
  cases r with
  | ok a => exact hf a (h.post a rfl)
  | error x =>
    cases x with
    | fault x => exact absurd rfl (h.noFault x)
    | refuse x => exact refuse x

theorem map {f : α → β} {R : β → Prop} (h : Safe r P) (hf : ∀ a, P a → R (f a)) : Safe (r.map f) R := by
  cases r with
  | ok a => exact ok (hf a (h.post a rfl))
  | error x =>
    cases x with
    | fault x => exact absurd rfl (h.noFault x)
    | refuse x => exact refuse x

theorem require (p : Prop) [Decidable p] (x : Refusal) : Safe (require p x) fun _ => p := by
  unfold Machine.require
  split
  · exact ok ‹_›
  · exact refuse x

/-- A read of bytes that have all been written. -/
theorem memRead (h : written (s.buf b) n) : Safe (memRead s b 0 n) fun v => (s.buf b).read 0 n = some v := by
  obtain ⟨v, hv⟩ := exists_read_of_written h
  unfold Machine.memRead
  split
  · rw [hv]; exact ok rfl
  · exact refuse _

theorem memWrite (s : State) (b : BufName) (off : Nat) (v : List Byte) :
    Safe (memWrite s b off v) fun t => t = s.setBuf b ((s.buf b).write off v) := by
  unfold Machine.memWrite
  split
  · exact ok rfl
  · exact refuse _

theorem storeFrame (s : State) (v : List Byte) :
    Safe (storeFrame s v) fun t => t = { s with txBuf := s.txBuf.write 0 v, crcSize := 2 } :=
  (memWrite s .tx 0 v).map fun _ h => by rw [h]; rfl

/-- An exchange reads the frame to send, and writes as many bytes of the receive buffer. -/
theorem exchange (h : written s.txBuf s.frameSize) (e : Env) (dst : BufName) :
    Safe (exchange s e dst) fun r => ∃ sent, r =
      (({ s with sent := sent } : State).setBuf dst ((s.buf dst).write 0 (fit s.frameSize e.rx)), e.transportFault) := by
  refine (memRead (b := .tx) h).bind fun tx _ => (memWrite _ dst 0 _).bind fun u hu => ok ⟨tx :: s.sent, ?_⟩
  rw [hu]
  cases dst <;> rfl

theorem primaryMessage (h : holdsMessage s.rxPrimary n) : Safe (primaryMessage s) fun _ => True :=
  (memRead (b := .rxPrimary) h.1).bind fun hd hhd => (memRead (b := .rxPrimary) (h.2 hd hhd).2).mono fun _ _ => trivial

end Safe

/-- A step that reads no unwritten byte, and whose next state, where it has one, meets `P`. -/
structure SafeStep (o : Host.Outcome State Fault Refusal) (P : State → Prop) : Prop where
  noFault : ∀ f, o ≠ .fault f
  post : ∀ t, o = .next t → P t

namespace SafeStep

variable {o : Host.Outcome State Fault Refusal} {P : State → Prop}

theorem next (h : P s) : SafeStep (.next s) P := ⟨by simp, fun _ ht => by cases ht; exact h⟩

theorem refused (x : Refusal) : SafeStep (.refused x) P := ⟨by simp, by simp⟩

/-- A precondition that is tested first. -/
theorem guard {c : Prop} [Decidable c] {x : Refusal} (h : ¬ c → SafeStep o P) :
    SafeStep (if c then .refused x else o) P := by
  split
  · exact refused x
  · exact h ‹_›

theorem outcome {r : Res State} (h : Safe r P) : SafeStep (outcome r) P :=
  ⟨fun f hf => h.noFault f (outcome_fault.1 hf), fun t ht => h.post t (outcome_next.1 ht)⟩

end SafeStep

/-! What the sequencer's states read, by the states that read the same (R221). -/

/-- The transaction kept aside, if any, holds its response. -/
abbrev outerReady (s : State) : Prop := ∀ o ∈ s.xcvOuter, holdsMessage o.rxPrimary (s.cfg.maximumFrameSize - 2)

/-- Every byte that a later step of the sequencer reads has been written. -/
structure TransactionReady (s : State) : Prop where
  ready : sequencerReady s = true
  outer : outerReady s

/-- A wait or a poll reads the frames of the last pass only when it repeats it (R210, R213). -/
theorem sequencerReady_poll (hx : s.xcvState = .s3aWait ∨ s.xcvState = .s3bPoll) :
    sequencerReady s = true ↔ (s.vars.retxPass = true → written s.txBuf s.frameSize ∧
      written (s.buf (retxBuffer s.cfg)) s.frameSize ∧ written s.rxSide s.frameSize) := by
  rcases hx with hx | hx <;> cases hp : s.vars.retxPass <;> simp [sequencerReady, hx, hp, and_assoc]

theorem sequencerReady_side (hx : s.xcvState = .s3bSidewait ∨ s.xcvState = .s3bSide) :
    sequencerReady s = true ↔
      s.vars.retxPass = false ∧ written s.txBuf s.frameSize ∧ written s.rxPrimary s.frameSize := by
  rcases hx with hx | hx <;> simp [sequencerReady, hx, and_assoc]

theorem sequencerReady_validate (hx : s.xcvState = .s3cValidate ∨ s.xcvState = .retx) :
    sequencerReady s = true ↔ s.vars.retxPass = false ∧ written s.txBuf s.frameSize ∧
      written s.rxPrimary s.frameSize ∧ written s.rxSide s.frameSize := by
  rcases hx with hx | hx <;> simp [sequencerReady, hx, and_assoc]

theorem sequencerReady_ack (hx : s.xcvState = .s3dAck) :
    sequencerReady s = true ↔ s.vars.retxPass = false ∧ written s.txBuf s.frameSize ∧
      written s.rxPrimary s.frameSize ∧ written s.rxSide s.frameSize ∧ holdsMessage s.rxPrimary (s.frameSize - 2) := by
  simp [sequencerReady, hx, and_assoc]

theorem sequencerReady_type (hx : s.xcvState = .s3eType ∨ s.xcvState = .s3fWaitdir) :
    sequencerReady s = true ↔ s.vars.retxPass = false ∧ holdsMessage s.rxPrimary (s.cfg.maximumFrameSize - 2) := by
  rcases hx with hx | hx <;> simp [sequencerReady, hx]

theorem sequencerReady_response (hx : s.xcvState = .s3gApply ∨ s.xcvState = .done) :
    sequencerReady s = true ↔ holdsMessage s.rxPrimary (s.cfg.maximumFrameSize - 2) := by
  rcases hx with hx | hx <;> simp [sequencerReady, hx]

namespace TransactionReady

theorem returnXchg (h : outerReady s) (r : Reply) : TransactionReady (s.returnXchg r) := by
  rw [returnXchg_eq]
  refine ⟨?_, h⟩
  cases s.xcvOuter <;> simp [sequencerReady]

theorem afterExchange {next : State → State} {r : State × Bool} (h : outerReady r.1)
    (hn : TransactionReady (next r.1)) : TransactionReady (afterExchange next r) := by
  unfold Machine.afterExchange
  dsimp only
  split
  · exact ⟨rfl, h⟩
  · exact hn

/-- The operand is latched in `req_msg`, as long as `req_len` says (R201). -/
theorem xcvS1Check (hs : TransactionReady s) : Safe (xcvS1Check s) TransactionReady := by
  unfold Machine.xcvS1Check
  split
  · exact .ok ⟨rfl, hs.outer⟩
  · refine (Safe.memWrite s .req 0 s.xcvOperand).bind ?_
    rintro _ rfl
    exact .ok ⟨decide_eq_true (written_write_self le_rfl), hs.outer⟩

theorem xcvS2Send (hs : TransactionReady s) (hx : s.xcvState = .s2Send) (e : Env) :
    Safe (xcvS2Send s e) TransactionReady := by
  have hreq : written s.reqMsg s.reqLen := by simpa [sequencerReady, hx] using hs.ready
  refine (Safe.memRead (b := .req) hreq).bind fun v _ => ?_
  split
  · exact .ok ⟨rfl, hs.outer⟩
  · next f hf =>
    obtain ⟨-, -, rfl⟩ := encodeFrame_ok hf
    refine (Safe.storeFrame s _).bind ?_
    rintro _ rfl
    refine (Safe.exchange (written_write_self (le_length_frameOf ..)) e .rxScratch).bind ?_
    rintro _ ⟨sent, rfl⟩
    exact .ok (afterExchange hs.outer ⟨rfl, hs.outer⟩)

theorem xcvS3aWait (hs : TransactionReady s) (hx : s.xcvState = .s3aWait) (e : Env) :
    TransactionReady (xcvS3aWait s e) := by
  have hpoll := (sequencerReady_poll (.inl hx)).1 hs.ready
  have hw := readyWait_state s (some s.vars.timeoutMs) e.ready
  unfold Machine.xcvS3aWait
  split
  · next heq => rw [heq] at hw; obtain rfl := hw; exact ⟨(sequencerReady_poll (.inr rfl)).2 hpoll, hs.outer⟩
  · next heq => rw [heq] at hw; obtain rfl := hw; exact ⟨rfl, hs.outer⟩
  · next heq => rw [heq] at hw; obtain rfl := hw; exact ⟨rfl, hs.outer⟩

/-- The repeated pass copies the retransmitted frame; a fresh one polls for a frame (R207, R210). -/
theorem xcvS3bPoll (hs : TransactionReady s) (hx : s.xcvState = .s3bPoll) (e : Env) :
    Safe (xcvS3bPoll s e) TransactionReady := by
  have hpoll := (sequencerReady_poll (.inr hx)).1 hs.ready
  unfold Machine.xcvS3bPoll
  split
  · next hpass =>
    obtain ⟨htx, hretx, hside⟩ := hpoll hpass
    refine (Safe.memRead hretx).bind fun f hf => (Safe.memWrite s .rxPrimary 0 f).bind ?_
    rintro _ rfl
    have hlen : f.length = s.frameSize := ((read_eq_some_iff ..).1 hf).1
    exact .ok ⟨(sequencerReady_validate (.inl rfl)).2 ⟨rfl, htx, written_write_self hlen.ge, hside⟩, hs.outer⟩
  · next hpass =>
    split
    · exact .ok ⟨rfl, hs.outer⟩
    · next f hf =>
      obtain ⟨-, -, rfl⟩ := encodeFrame_ok hf
      have hframe := written_write_self (m := s.txBuf) (le_length_frameOf s.cfg s.frameSize s.cfg.pollMsg)
      refine (Safe.storeFrame s _).bind ?_
      rintro _ rfl
      refine (Safe.exchange hframe e .rxPrimary).bind ?_
      rintro _ ⟨sent, rfl⟩
      refine .ok (afterExchange hs.outer ⟨(sequencerReady_side (.inl rfl)).2 ⟨?_, hframe, ?_⟩, hs.outer⟩)
      · exact eq_false_of_ne_true hpass
      · exact written_write_self (fit_length _ _).ge

theorem xcvS3bSidewait (hs : TransactionReady s) (hx : s.xcvState = .s3bSidewait) (e : Env) :
    TransactionReady (xcvS3bSidewait s e) := by
  have hside := (sequencerReady_side (.inl hx)).1 hs.ready
  have hw := readyWait_state s (some s.cfg.tSideMs) e.ready
  unfold Machine.xcvS3bSidewait
  split
  · next heq => rw [heq] at hw; obtain rfl := hw; exact ⟨(sequencerReady_side (.inr rfl)).2 hside, hs.outer⟩
  · next heq => rw [heq] at hw; obtain rfl := hw; exact ⟨(sequencerReady_side (.inr rfl)).2 hside, hs.outer⟩
  · next heq => rw [heq] at hw; obtain rfl := hw; exact ⟨rfl, hs.outer⟩

theorem xcvS3bSide (hs : TransactionReady s) (hx : s.xcvState = .s3bSide) (e : Env) :
    Safe (xcvS3bSide s e) TransactionReady := by
  obtain ⟨hpass, htx, hprimary⟩ := (sequencerReady_side (.inr hx)).1 hs.ready
  have hside : written (s.rxSide.write 0 (fit s.frameSize e.rx)) s.frameSize := written_write_self (fit_length _ _).ge
  refine (Safe.exchange htx e .rxSide).bind ?_
  rintro _ ⟨sent, rfl⟩
  split
  · exact .ok ⟨rfl, hs.outer⟩
  · exact (Safe.memRead (b := .rxSide) hside).bind fun f _ =>
      .ok ⟨(sequencerReady_validate (.inl rfl)).2 ⟨hpass, htx, hprimary, hside⟩, hs.outer⟩

/-- A frame that passes the check holds its message (R211). -/
theorem xcvS3cValidate (hs : TransactionReady s) (hx : s.xcvState = .s3cValidate) :
    Safe (xcvS3cValidate s) TransactionReady := by
  obtain ⟨hpass, htx, hprimary, hside⟩ := (sequencerReady_validate (.inl hx)).1 hs.ready
  refine (Safe.memRead (b := .rxPrimary) hprimary).bind fun f hf => ?_
  split
  · next hc =>
    exact .ok ⟨(sequencerReady_ack rfl).2 ⟨hpass, htx, hprimary, hside, holdsMessage_of_check hf hc⟩, hs.outer⟩
  · split
    · exact .ok ⟨rfl, hs.outer⟩
    · exact .ok ⟨(sequencerReady_validate (.inr rfl)).2 ⟨hpass, htx, hprimary, hside⟩, hs.outer⟩

/-- The message stays within the buffers' capacity for one, the frame within theirs (R51). -/
theorem xcvS3dAck (hs : TransactionReady s) (hx : s.xcvState = .s3dAck)
    (hframe : s.frameSize ≤ s.cfg.maximumFrameSize) : Safe (xcvS3dAck s) TransactionReady := by
  obtain ⟨hpass, htx, hprimary, hside, hmsg⟩ := (sequencerReady_ack hx).1 hs.ready
  unfold Machine.xcvS3dAck
  split
  · exact .ok ⟨rfl, hs.outer⟩
  · refine (Safe.memRead (b := .rxPrimary) (written_of_le hmsg.1 (by decide))).bind fun h _ => ?_
    split
    · split
      · exact .ok ⟨rfl, hs.outer⟩
      · exact .ok ⟨(sequencerReady_validate (.inr rfl)).2 ⟨hpass, htx, hprimary, hside⟩, hs.outer⟩
    · have hmax : holdsMessage s.rxPrimary (s.cfg.maximumFrameSize - 2) := holdsMessage_of_le hmsg (by omega)
      exact .ok ⟨(sequencerReady_type (.inl rfl)).2 ⟨hpass, hmax⟩, hs.outer⟩

theorem xcvS3eType (hs : TransactionReady s) (hx : s.xcvState = .s3eType) : Safe (xcvS3eType s) TransactionReady := by
  have hmsg := (sequencerReady_type (.inl hx)).1 hs.ready
  refine (Safe.primaryMessage hmsg.2).bind fun r _ => ?_
  split
  · split
    · exact .ok ⟨rfl, hs.outer⟩
    · exact .ok ⟨(sequencerReady_type (.inr rfl)).2 hmsg, hs.outer⟩
  · exact .ok ⟨rfl, hs.outer⟩

/-- A Wait directive starts a fresh pass, which reads nothing of this one (R217). -/
theorem xcvS3fWaitdir (hs : TransactionReady s) (hx : s.xcvState = .s3fWaitdir) :
    Safe (xcvS3fWaitdir s) TransactionReady := by
  obtain ⟨hpass, hmsg⟩ := (sequencerReady_type (.inr hx)).1 hs.ready
  refine (Safe.primaryMessage hmsg).bind fun r _ => ?_
  split
  · exact .ok ⟨(sequencerReady_poll (.inl rfl)).2 fun hp => absurd (hpass.symm.trans hp) (by decide), hs.outer⟩
  · exact .ok ⟨(sequencerReady_response (.inl rfl)).2 hmsg, hs.outer⟩

/-- The refresh keeps the response aside (R262). -/
theorem xcvS3gApply (hs : TransactionReady s) (hx : s.xcvState = .s3gApply) :
    Safe (xcvS3gApply s) TransactionReady := by
  have hmsg := (sequencerReady_response (.inl hx)).1 hs.ready
  refine (Safe.primaryMessage hmsg).bind fun r _ => ?_
  split
  · refine .ok ⟨rfl, ?_⟩
    rintro _ ⟨⟩
    exact hmsg
  · exact .ok ⟨(sequencerReady_response (.inr rfl)).2 hmsg, hs.outer⟩

/-- A step of the fetch reads no buffer; it leaves the transaction as it stands, or starts a nested one. -/
theorem fetchStep (hs : TransactionReady s) (e : Env) :
    Safe (fetchStep s e) fun r => TransactionReady r.1 ∧ r.1.xcvOuter = s.xcvOuter := by
  unfold Machine.fetchStep
  split
  · exact .ok ⟨hs, rfl⟩
  · split
    · exact .ok ⟨⟨hs.ready, hs.outer⟩, rfl⟩
    · next st _ _ f rest _ =>
      split
      · split
        · next r _ =>
          obtain ⟨k, g, heq⟩ := fetchTake_frame s st f rest r
          refine .ok ?_
          rw [heq]
          exact ⟨⟨hs.ready, hs.outer⟩, rfl⟩
        · exact .ok ⟨hs, rfl⟩
      · split
        · exact (Safe.require _ _).bind fun _ _ => .ok ⟨⟨rfl, hs.outer⟩, rfl⟩
        · exact .ok ⟨hs, rfl⟩

/-- The response kept aside is the primary buffer again (R262). -/
theorem xcvS3gRefresh (hs : TransactionReady s) (hx : s.xcvState = .s3gRefresh) (e : Env) :
    Safe (xcvS3gRefresh s e) TransactionReady := by
  have hsome : s.xcvOuter.isSome = true := by simpa [sequencerReady, hx] using hs.ready
  obtain ⟨o, ho⟩ := Option.isSome_iff_exists.1 hsome
  refine (fetchStep hs e).bind fun r hr => ?_
  obtain ⟨hr, hro⟩ := hr
  have hmsg := hr.outer o (hro.trans ho)
  have hend : endRefresh r.1 =
      { r.1 with xcvOuter := none, xcvCaller := o.caller, vars := o.vars, rxPrimary := o.rxPrimary } := by
    simp [endRefresh, hro.trans ho]
  split
  · exact .ok hr
  · refine .ok ?_
    rw [hend]
    exact ⟨(sequencerReady_response (.inr rfl)).2 hmsg, nofun⟩
  · refine .ok ?_
    rw [hend]
    exact ⟨rfl, nofun⟩

/-- The retransmit asks for the pass that repeats this one, whose frames have been written (R213). -/
theorem xcvRetx (hs : TransactionReady s) (hx : s.xcvState = .retx) (e : Env) :
    Safe (xcvRetx s e) TransactionReady := by
  obtain ⟨-, htx, -, hside⟩ := (sequencerReady_validate (.inr hx)).1 hs.ready
  have htarget : ∀ c, retxTarget c = .s3aWait ∨ retxTarget c = .s3bPoll := fun c => by
    cases h : c.retxRewait <;> simp [retxTarget, h]
  unfold Machine.xcvRetx
  dsimp only
  split
  · next hsrc =>
    have hbuf : retxBuffer s.cfg = .rxRetx := by simp [retxBuffer, hsrc]
    refine (Safe.exchange ?_ e .rxRetx).bind ?_
    · exact htx
    rintro _ ⟨sent, rfl⟩
    refine .ok (afterExchange hs.outer ⟨(sequencerReady_poll (htarget s.cfg)).2 fun _ => ⟨htx, ?_, hside⟩, hs.outer⟩)
    show written (State.buf _ (retxBuffer s.cfg)) s.frameSize
    rw [hbuf]
    exact written_write_self (fit_length _ _).ge
  · next hsrc =>
    have hbuf : retxBuffer s.cfg = .rxSide := by simp [retxBuffer, hsrc]
    refine .ok ⟨(sequencerReady_poll (htarget s.cfg)).2 fun _ => ⟨htx, ?_, hside⟩, hs.outer⟩
    show written (State.buf _ (retxBuffer s.cfg)) s.frameSize
    rw [hbuf]
    exact hside

theorem xcvDone (hs : TransactionReady s) (hx : s.xcvState = .done) : Safe (xcvDone s) TransactionReady := by
  have hmsg := (sequencerReady_response (.inr hx)).1 hs.ready
  refine (Safe.primaryMessage hmsg).bind fun r _ => (Safe.memWrite s .resp 0 r).bind ?_
  rintro _ rfl
  refine .ok (returnXchg ?_ _)
  exact hs.outer

theorem xcvFail (hs : TransactionReady s) : TransactionReady (xcvFail s) := by
  unfold Machine.xcvFail
  refine returnXchg ?_ _
  exact hs.outer

theorem xcvStep (hs : TransactionReady s) (hframe : s.frameSize ≤ s.cfg.maximumFrameSize) (e : Env) :
    Safe (xcvStep s e) TransactionReady := by
  unfold Machine.xcvStep
  cases hx : s.xcvState with
  | idle => exact .ok hs
  | s1Check => exact hs.xcvS1Check
  | s2Send => exact hs.xcvS2Send hx e
  | s3aWait => exact .ok (hs.xcvS3aWait hx e)
  | s3bPoll => exact hs.xcvS3bPoll hx e
  | s3bSidewait => exact .ok (hs.xcvS3bSidewait hx e)
  | s3bSide => exact hs.xcvS3bSide hx e
  | s3cValidate => exact hs.xcvS3cValidate hx
  | s3dAck => exact hs.xcvS3dAck hx hframe
  | s3eType => exact hs.xcvS3eType hx
  | s3fWaitdir => exact hs.xcvS3fWaitdir hx
  | s3gApply => exact hs.xcvS3gApply hx
  | s3gRefresh => exact hs.xcvS3gRefresh hx e
  | retx => exact hs.xcvRetx hx e
  | done => exact hs.xcvDone hx
  | fail => exact .ok hs.xcvFail

end TransactionReady

/-- Nothing is lost to the sequencer where `tx_buf` keeps what has been written of it, whatever the mailbox holds. -/
theorem sequencerReady_of_written {tx mbx : Memory} (h : sequencerReady s = true)
    (hw : ∀ n, written s.txBuf n → written tx n) : sequencerReady { s with txBuf := tx, mbxBuf := mbx } = true := by
  by_cases hpoll : s.xcvState = .s3aWait ∨ s.xcvState = .s3bPoll
  · have hbuf : ({ s with txBuf := tx, mbxBuf := mbx } : State).buf (retxBuffer s.cfg) = s.buf (retxBuffer s.cfg) := by
      unfold retxBuffer
      split <;> rfl
    refine (sequencerReady_poll ?_).2 fun hp => ?_
    · exact hpoll
    · obtain ⟨htx, hretx, hside⟩ := (sequencerReady_poll hpoll).1 h hp
      exact ⟨hw _ htx, hbuf ▸ hretx, hside⟩
  by_cases hside : s.xcvState = .s3bSidewait ∨ s.xcvState = .s3bSide
  · obtain ⟨hp, htx, hrest⟩ := (sequencerReady_side hside).1 h
    refine (sequencerReady_side ?_).2 ⟨hp, hw _ htx, hrest⟩
    exact hside
  by_cases hvalidate : s.xcvState = .s3cValidate ∨ s.xcvState = .retx
  · obtain ⟨hp, htx, hrest⟩ := (sequencerReady_validate hvalidate).1 h
    refine (sequencerReady_validate ?_).2 ⟨hp, hw _ htx, hrest⟩
    exact hvalidate
  by_cases hack : s.xcvState = .s3dAck
  · obtain ⟨hp, htx, hrest⟩ := (sequencerReady_ack hack).1 h
    refine (sequencerReady_ack ?_).2 ⟨hp, hw _ htx, hrest⟩
    exact hack
  -- The other states read nothing of `tx_buf`.
  simp only [not_or] at hpoll hside hvalidate
  unfold sequencerReady at h ⊢
  dsimp only
  split at h
  all_goals simp_all only [reduceCtorEq, not_true_eq_false, not_false_eq_true, and_true, and_false]

/-! What a step reads, of the sequencer and of the mailbox. -/

theorem bytesReady_iff : bytesReady s ↔ TransactionReady s ∧ written s.mbxBuf s.mbxLen.toNat :=
  ⟨fun ⟨hr, ho, hm⟩ => ⟨⟨hr, ho⟩, hm⟩, fun ⟨⟨hr, ho⟩, hm⟩ => ⟨hr, ho, hm⟩⟩

theorem safe_xcvStep (hs : bytesReady s) (hframe : s.frameSize ≤ s.cfg.maximumFrameSize) (e : Env) :
    Safe (xcvStep s e) bytesReady := by
  obtain ⟨htxn, hmbx⟩ := bytesReady_iff.1 hs
  have hsafe := htxn.xcvStep hframe e
  refine ⟨hsafe.noFault, fun t ht => bytesReady_iff.2 ⟨hsafe.post t ht, ?_⟩⟩
  have hout := xcvStep_outside ht
  rw [hout.mbxBuf, hout.mbxLen]
  exact hmbx

theorem safe_fetchStep (hs : bytesReady s) (e : Env) : Safe (fetchStep s e) fun r => bytesReady r.1 := by
  obtain ⟨htxn, hmbx⟩ := bytesReady_iff.1 hs
  have hsafe := htxn.fetchStep e
  refine ⟨hsafe.noFault, fun r hr => bytesReady_iff.2 ⟨(hsafe.post r hr).1, ?_⟩⟩
  have hout := fetchStep_outside hr
  rw [hout.mbxBuf, hout.mbxLen]
  exact hmbx

/-- A transaction that starts reads nothing until it has latched its operand. -/
theorem bytesReady_startXchg (hs : bytesReady s) (c : Caller) (v : List Byte) : bytesReady (s.startXchg c v) :=
  have ⟨_, ho, hm⟩ := hs
  ⟨rfl, ho, hm⟩

theorem safe_storeFrame (hs : bytesReady s) (f : List Byte) : Safe (storeFrame s f) bytesReady := by
  obtain ⟨hr, ho, hm⟩ := hs
  refine (Safe.storeFrame s f).mono ?_
  rintro _ rfl
  exact ⟨sequencerReady_of_written hr fun _ => written_write, ho, hm⟩

/-- The frame size changes while the sequencer is idle (R340). -/
theorem bytesReady_linkReset (hs : bytesReady s) (hi : s.xcvState = .idle) : bytesReady (linkReset s) := by
  obtain ⟨-, ho, hm⟩ := hs
  exact ⟨by simp [sequencerReady, linkReset, hi], ho, hm⟩

theorem bytesReady_clearMailbox (hs : bytesReady s) : bytesReady (clearMailbox s) :=
  have ⟨hr, ho, _⟩ := hs
  ⟨hr, ho, written_zero _⟩

theorem bytesReady_goneMailbox (hs : bytesReady s) : bytesReady (goneMailbox s) :=
  have ⟨hr, ho, _⟩ := hs
  ⟨hr, ho, written_zero _⟩

/-- A notification is stored as long as `mbx_len` says (R313). -/
theorem safe_postMailbox (hs : bytesReady s) (d : List Byte) : Safe (postMailbox s d) fun r => bytesReady r.1 := by
  unfold postMailbox
  split
  · exact .ok hs
  · split
    · exact .ok hs
    · obtain ⟨hr, ho, -⟩ := hs
      refine (Safe.memWrite s .mbx 0 d).bind ?_
      rintro _ rfl
      have hr : sequencerReady { s with mbxBuf := s.mbxBuf.write 0 d } = true := sequencerReady_of_written hr fun _ => id
      exact .ok ⟨hr, ho, written_write_self (Int.toNat_natCast d.length).le⟩

/-- A consumer reads a notification that has been posted (R315). -/
theorem safe_takeLook (hs : bytesReady s) (c : Consumer) : Safe (takeLook s c) bytesReady := by
  unfold takeLook
  split
  · exact .ok hs
  · split
    · obtain ⟨hr, ho, hm⟩ := hs
      exact (Safe.memRead (b := .mbx) hm).bind fun d _ => .ok ⟨hr, ho, written_zero _⟩
    · split
      · exact .ok hs
      · exact .ok hs

theorem safe_consumerTurn (hs : bytesReady s) (a : Nat) : Safe (consumerTurn s a) bytesReady := by
  unfold consumerTurn
  split
  · split
    · exact safe_takeLook hs _
    · exact .ok hs
  · split
    · exact .ok hs
    · exact .ok hs

theorem bytesReady_consumerInterrupt (hs : bytesReady s) (a : Nat) : bytesReady (consumerInterrupt s a) := by
  unfold consumerInterrupt
  repeat' split
  all_goals exact hs

theorem bytesReady_fgTurn (hs : bytesReady s) (a : Nat) : bytesReady (fgTurn s a) := by
  rw [fgTurn_frame]
  exact hs

theorem bytesReady_fgTimeout (hs : bytesReady s) (a : Nat) : bytesReady (fgTimeout s a) := by
  unfold fgTimeout
  split <;> exact hs

theorem bytesReady_fgInterrupt (hs : bytesReady s) (a : Nat) : bytesReady (fgInterrupt s a) := by
  unfold fgInterrupt
  split <;> exact hs

/-! The command port. -/

theorem safeStep_frmEnc (hs : bytesReady s) : SafeStep (execFrmEnc s) bytesReady := by
  unfold execFrmEnc
  split
  · split
    · exact .next hs
    · exact .outcome ((safe_storeFrame hs _).map fun _ ht => ht)
  · exact .refused _

theorem safeStep_frmDec (hs : bytesReady s) : SafeStep (execFrmDec s) bytesReady := by
  unfold execFrmDec
  split
  · split <;> exact .next hs
  · exact .refused _

theorem safeStep_xcvXchg (hs : bytesReady s) : SafeStep (execXcvXchg s) bytesReady := by
  unfold execXcvXchg
  split
  · exact .refused _
  · refine .guard fun _ => .guard fun _ => ?_
    split
    · exact .next hs
    · exact .next (bytesReady_startXchg hs _ _)

theorem bytesReady_admitFg (hs : bytesReady s) (nb : Bool) : bytesReady (admitFg nb s) := by
  unfold admitFg
  repeat' split
  all_goals exact hs

theorem bytesReady_acquireBg (hs : bytesReady s) : bytesReady (acquireBg s).1 := by
  unfold acquireBg
  split <;> exact hs

theorem safe_releaseBg (hs : bytesReady s) : Safe (releaseBg s) bytesReady :=
  (Safe.require _ _).bind fun _ _ => (Safe.require _ _).bind fun _ _ => .ok hs

theorem safeStep_arbAcqBg (hs : bytesReady s) : SafeStep (execArbAcqBg s) bytesReady := by
  refine .guard fun _ => ?_
  split
  · exact .next hs
  · exact .guard fun _ => .next (bytesReady_acquireBg hs)

theorem safeStep_arbRelBg (hs : bytesReady s) : SafeStep (execArbRelBg s) bytesReady := by
  refine .guard fun _ => .guard fun _ => .outcome ((safe_releaseBg hs).map fun t ht => ?_)
  split
  · exact hs
  · exact ht

theorem safeStep_mbxPost (hs : bytesReady s) : SafeStep (execMbxPost s) bytesReady := by
  refine .guard fun _ => .guard fun _ => ?_
  split
  · split
    · exact .next hs
    · exact .outcome ((safe_postMailbox hs _).map fun _ hr => hr)
  · exact .refused _

theorem bytesReady_takeEnter (hs : bytesReady s) (nb : Bool) : bytesReady (takeEnter nb s) := by
  unfold takeEnter
  repeat' split
  all_goals exact hs

theorem safeStep_mbxTake (hs : bytesReady s) (nb : Bool) : SafeStep (execMbxTake nb s) bytesReady := by
  refine .guard fun _ => .guard fun _ => .guard fun _ => .guard fun _ => ?_
  split
  · exact .next hs
  · exact .next (bytesReady_takeEnter hs nb)

theorem safeStep_exec (hs : bytesReady s) (i : Instr) : SafeStep (exec i s) bytesReady := by
  cases i with
  | crcClr => exact .next hs
  | crcByte bb =>
    show SafeStep (execCrcByte bb s) bytesReady
    unfold execCrcByte
    split
    · exact .next hs
    · exact .refused _
  | crcRd =>
    show SafeStep (execCrcRd s) bytesReady
    unfold execCrcRd
    split
    · exact .next hs
    · exact .refused _
  | frmEnc => exact safeStep_frmEnc hs
  | frmVal =>
    show SafeStep (execFrmVal s) bytesReady
    unfold execFrmVal
    split
    · exact .next hs
    · exact .refused _
  | frmDec => exact safeStep_frmDec hs
  | xcvXchg => exact safeStep_xcvXchg hs
  | arbAcqFg nb =>
    exact .guard fun _ => .guard fun _ => .guard fun _ => .guard fun _ => .next (bytesReady_admitFg hs nb)
  | arbRelFg => exact .guard fun _ => .guard fun _ => .guard fun _ => .next hs
  | arbAcqBg => exact safeStep_arbAcqBg hs
  | arbRelBg => exact safeStep_arbRelBg hs
  | mbxClr => exact .guard fun _ => .guard fun _ => .guard fun _ => .next (bytesReady_clearMailbox (s := s) hs)
  | mbxPost => exact safeStep_mbxPost hs
  | mbxTake nb => exact safeStep_mbxTake hs nb
  | mbxGone => exact .guard fun _ => .guard fun _ => .next (bytesReady_goneMailbox (s := s) hs)
  | lnkRst =>
    exact .guard fun _ => .guard fun _ => .guard fun hi => .guard fun _ =>
      .next (bytesReady_linkReset (s := s) hs (not_not.1 hi))
  | statClr =>
    refine .guard fun _ => ?_
    split
    · exact .next hs
    · exact .refused _
  | statRd k => exact .next hs

/-! The worker. -/

theorem bytesReady_beginStop (hs : bytesReady s) : bytesReady (beginStop s) := by
  rw [beginStop_eq]
  exact hs

theorem bytesReady_abandonConnect (hs : bytesReady s) : bytesReady (abandonConnect s) := by
  rw [abandonConnect_eq]
  exact hs

theorem bytesReady_allocFailure (hs : bytesReady s) : bytesReady (allocFailure s) := by
  rcases allocFailure_cases s with ⟨-, h⟩ | ⟨-, h⟩
  · rw [h]; exact hs
  · rw [h]; exact hs

theorem bytesReady_clearStatsByPolicy (hs : bytesReady s) : bytesReady (clearStatsByPolicy s) := by
  unfold clearStatsByPolicy
  split <;> exact hs

theorem bytesReady_workerDebounce (hs : bytesReady s) (e : Env) (seen : Nat) :
    bytesReady (workerDebounce s e seen) := by
  unfold workerDebounce
  split
  · exact bytesReady_beginStop hs
  · repeat' split
    all_goals exact hs

theorem bytesReady_workerConnReset (hs : bytesReady s) : bytesReady (workerConnReset s) := by
  unfold workerConnReset
  split
  · exact bytesReady_beginStop hs
  · split
    · next hi => exact bytesReady_linkReset (s := s) hs hi.1
    · exact hs

theorem bytesReady_workerConnMailbox (hs : bytesReady s) : bytesReady (workerConnMailbox s) := by
  unfold workerConnMailbox
  split
  · exact bytesReady_beginStop hs
  · split
    · exact bytesReady_clearMailbox (s := s) hs
    · exact hs

theorem safe_workerConnFetching (hs : bytesReady s) (e : Env) : Safe (workerConnFetching s e) bytesReady := by
  unfold workerConnFetching
  split
  · exact .ok (bytesReady_abandonConnect hs)
  · refine (safe_fetchStep hs e).bind fun r hr => ?_
    split <;> exact .ok hr

theorem bytesReady_workerConnRegister (hs : bytesReady s) (e : Env) : bytesReady (workerConnRegister s e) := by
  unfold workerConnRegister
  split <;> exact hs

theorem safe_workerProbe (hs : bytesReady s) (tries : Nat) : Safe (workerProbe s tries) bytesReady := by
  unfold workerProbe
  split
  · exact .ok (bytesReady_abandonConnect hs)
  · exact (Safe.require _ _).bind fun _ _ => (Safe.require _ _).bind fun _ _ => (Safe.require _ _).bind fun _ _ =>
      .ok (bytesReady_startXchg (s := s) hs .probe (descReq s.cfg .protoVersion 0))

theorem bytesReady_workerProbing (hs : bytesReady s) (tries : Nat) : bytesReady (workerProbing s tries) := by
  unfold workerProbing
  split
  · exact hs
  · split
    · exact bytesReady_abandonConnect hs
    · dsimp only
      repeat' split
      all_goals exact hs

theorem bytesReady_workerConnDownStat (hs : bytesReady s) : bytesReady (workerConnDownStat s) := by
  unfold workerConnDownStat
  split
  · exact bytesReady_abandonConnect hs
  · exact bytesReady_clearStatsByPolicy hs

theorem bytesReady_workerPollWait (hs : bytesReady s) (e : Env) : bytesReady (workerPollWait s e) := by
  have hwait : bytesReady (readyWait s s.cfg.tPoll e.ready).1 := by
    rw [readyWait_state]
    exact hs
  unfold workerPollWait
  dsimp only
  split
  · exact bytesReady_beginStop hwait
  · split <;> exact hwait

theorem bytesReady_workerPollTest (hs : bytesReady s) : bytesReady (workerPollTest s) := by
  unfold workerPollTest
  split <;> exact hs

theorem bytesReady_workerPollAcquire (hs : bytesReady s) : bytesReady (workerPollAcquire s) := by
  have hacq := bytesReady_acquireBg hs
  unfold workerPollAcquire
  split
  · exact bytesReady_beginStop hs
  · split
    · next heq => rw [heq] at hacq; exact hacq
    · next heq => rw [heq] at hacq; exact hacq

theorem safe_workerPollExchange (hs : bytesReady s) : Safe (workerPollExchange s) bytesReady :=
  (Safe.require _ _).bind fun _ _ => (Safe.require _ _).bind fun _ _ => (Safe.require _ _).bind fun _ _ =>
    (Safe.require _ _).bind fun _ _ => .ok (bytesReady_startXchg (s := s) hs .poller s.cfg.notifReqMsg)

theorem bytesReady_workerPollAwait (hs : bytesReady s) : bytesReady (workerPollAwait s) := by
  unfold workerPollAwait
  split <;> exact hs

theorem safe_workerPollAct (hs : bytesReady s) (e : Env) (r : Reply) : Safe (workerPollAct s e r) bytesReady := by
  unfold workerPollAct
  split
  · exact (safe_postMailbox hs _).map fun _ hr => hr
  · split <;> exact .ok hs

theorem bytesReady_workerFailed (hs : bytesReady s) : bytesReady (workerFailed s) := by
  unfold workerFailed
  split
  · exact bytesReady_beginStop hs
  · exact hs

theorem bytesReady_workerStopDrain (hs : bytesReady s) : bytesReady (workerStopDrain s) := by
  unfold workerStopDrain
  split <;> exact hs

theorem safe_workerAdvance (hs : bytesReady s) (e : Env) : Safe (workerAdvance s e) bytesReady := by
  unfold workerAdvance
  cases s.worker with
  | debounce seen => exact .ok (bytesReady_workerDebounce hs e seen)
  | connReset => exact .ok (bytesReady_workerConnReset hs)
  | connMailbox => exact .ok (bytesReady_workerConnMailbox hs)
  | connFetching => exact safe_workerConnFetching hs e
  | connRegister => exact .ok (bytesReady_workerConnRegister hs e)
  | connUpStat | leaveStat => exact .ok (bytesReady_clearStatsByPolicy hs)
  | probe tries => exact safe_workerProbe hs tries
  | probing tries => exact .ok (bytesReady_workerProbing hs tries)
  | connDownStat => exact .ok (bytesReady_workerConnDownStat hs)
  | pollWait => exact .ok (bytesReady_workerPollWait hs e)
  | pollTest => exact .ok (bytesReady_workerPollTest hs)
  | pollAcquire => exact .ok (bytesReady_workerPollAcquire hs)
  | pollExchange => exact safe_workerPollExchange hs
  | pollAwait => exact .ok (bytesReady_workerPollAwait hs)
  | pollRelease r => exact (safe_releaseBg hs).map fun _ ht => ht
  | pollAct r => exact safe_workerPollAct hs e r
  | leaveGone | failGone | stopGone => exact .ok (bytesReady_goneMailbox (s := s) hs)
  | failed => exact .ok (bytesReady_workerFailed hs)
  | stopDrain => exact .ok (bytesReady_workerStopDrain hs)
  | connStat | connFetch | connUp | connBackoff | connDown | leaveUnregister | leaveDown | failUnregister | failDown
  | stopUnregister | ended => exact .ok hs

theorem safe_workerStep (hs : bytesReady s) (e : Env) : Safe (workerStep s e) bytesReady := by
  unfold workerStep
  split
  · exact .ok hs
  · split
    · exact .ok (bytesReady_allocFailure hs)
    · exact safe_workerAdvance hs e

/-! The step. -/

theorem safe_applyInput (hs : bytesReady s) (hframe : s.frameSize ≤ s.cfg.maximumFrameSize) (x : Input) :
    Safe (applyInput s x) bytesReady := by
  cases x with
  | command c => exact .ok hs
  | xcv e => exact safe_xcvStep hs hframe e
  | worker e => exact safe_workerStep hs e
  | fgTurn a => exact .ok (bytesReady_fgTurn hs a)
  | fgTimeout a => exact .ok (bytesReady_fgTimeout hs a)
  | consumerTurn a => exact safe_consumerTurn hs a
  | interrupt c a =>
    cases c with
    | fg => exact .ok (bytesReady_fgInterrupt hs a)
    | bg => exact .ok hs
    | worker => exact .ok hs
    | consumer => exact .ok (bytesReady_consumerInterrupt hs a)
  | readyEdge => exact .ok hs
  | stopSet => exact .ok hs
  | allocFailure => exact .ok hs

/-- A step takes its input, accepts a command's operands, and then acts: no part of it reads an unwritten byte. -/
theorem safeStep_step (hs : bytesReady s) (hframe : s.frameSize ≤ s.cfg.maximumFrameSize) :
    SafeStep (step s) bytesReady := by
  refine .guard fun _ => .guard fun _ => ?_
  split
  · exact .next hs
  · split
    · exact safeStep_exec (by exact hs) _
    · exact .next hs
  · refine .outcome (safe_applyInput ?_ ?_ _)
    · exact hs
    · exact hframe

/-- Settles O59: a read meets a byte that is missing, and a step meets none. -/
theorem noUnwrittenByteRead : Obligations.NoUnwrittenByteRead := by
  refine ⟨fun s b off n a hcap hoff hn hbyte => ?_, fun s hinv hs => ?_⟩
  · have hnone : (s.buf b).read off n = none := by
      refine Option.not_isSome_iff_eq_none.1 fun hsome => ?_
      have hget := (read_isSome_iff (s.buf b) off n).1 hsome (a - off) (by omega)
      rw [Nat.add_sub_cancel' hoff] at hget
      exact absurd (hbyte ▸ hget : (none : Option Byte).isSome = true) (by decide)
    simp [memRead, hcap, hnone]
  · obtain ⟨-, -, ⟨⟨-, hframe⟩, -⟩, -⟩ := hinv
    exact ⟨(safeStep_step hs hframe).noFault, (safeStep_step hs hframe).post⟩

end Sys2Proof.Laws

/-! PROOFS. `XCV.XCHG` at the command port (R191, R436): when it is accepted, refused, and fails; and the gates of the class,
the connection state and the link of every operation (R433, R436, U14). -/

namespace Sys2Proof.Laws

open Sys2Proof.Machine

variable {s : State}

/-! `XCV.XCHG`: the issuer is tested first, then the sequencer, then the operand. -/

theorem xcvXchg_of_linkRefusal {r : Refusal} (h : linkRefusal s = some r) : exec .xcvXchg s = .refused r := by
  simp [exec, execXcvXchg, h]

theorem xcvXchg_of_busy (h : linkRefusal s = none) (hx : s.xcvState ≠ .idle) :
    exec .xcvXchg s = .refused .sequencerBusy := by
  simp [exec, execXcvXchg, h, hx]

theorem xcvXchg_of_malformed (h : linkRefusal s = none) (hx : s.xcvState = .idle) (hm : isMessage s.cmdData = false) :
    exec .xcvXchg s = .refused .malformedMessage := by
  simp [exec, execXcvXchg, h, hx, hm]

theorem xcvXchg_of_failed (h : linkRefusal s = none) (hx : s.xcvState = .idle) (hm : isMessage s.cmdData = true)
    (hc : s.portCls = .bg) (hf : s.connState = .failed) : exec .xcvXchg s = .next (xchgInFailed s) := by
  simp [exec, execXcvXchg, h, hx, hm, hc, hf]

theorem xcvXchg_accepted (h : linkRefusal s = none) (hx : s.xcvState = .idle) (hm : isMessage s.cmdData = true)
    (hf : ¬ (s.portCls = .bg ∧ s.connState = .failed)) :
    exec .xcvXchg s = .next (s.startXchg (.port s.portCls s.portAgent) s.cmdData) := by
  simp [exec, execXcvXchg, h, hx, hm, hf]

/-- An operand is no message when it is shorter than a header or its length field is not its byte count (R191 (c)). -/
theorem isMessage_eq_false_iff {m : List Byte} : isMessage m = false ↔ m.length < 4 ∨ be16 m 1 ≠ m.length := by
  simp only [isMessage, Bool.and_eq_false_iff, decide_eq_false_iff_not, not_le]
  exact Iff.rfl

/-- The issuers that may use the link; the poller passes this gate in `Failed` too (U14). -/
theorem linkRefusal_eq_none
    (h : (s.portCls = .fg ∧ s.linkOwner = .fg ∧ s.fgHolder = s.portAgent) ∨
      (s.portCls = .bg ∧ (s.connState = .connected ∨ s.connState = .failed) ∧ s.linkOwner = .bg ∧
        s.workerInSequence = false) ∨
      (s.portCls = .worker ∧ s.connState = .initiating ∧ s.linkOwner = .none ∧ s.workerInSequence = false)) :
    linkRefusal s = none := by
  rcases h with ⟨hc, ho, ha⟩ | ⟨hc, hconn | hconn, ho, hw⟩ | ⟨hc, hconn, ho, hw⟩
  · simp [linkRefusal, hc, ho, ha]
  · simp [linkRefusal, hc, hconn, ho, hw]
  · simp [linkRefusal, hc, hconn, ho, hw]
  · simp [linkRefusal, hc, hconn, ho, hw]

/-- Settles O18: each of the three issuers passes the gate of the link, and none of them is the poller in `Failed`. -/
theorem xchgAccepted : Obligations.XchgAccepted := by
  intro s hx hm hissuer
  have hlink : linkRefusal s = none := linkRefusal_eq_none <| by
    rcases hissuer with hfg | ⟨hc, hconn, hbg⟩ | hworker
    · exact .inl hfg
    · exact .inr (.inl ⟨hc, .inl hconn, hbg⟩)
    · exact .inr (.inr hworker)
  have hnot : ¬ (s.portCls = .bg ∧ s.connState = .failed) := by
    rintro ⟨hc, hf⟩
    rcases hissuer with ⟨h, -⟩ | ⟨-, h, -⟩ | ⟨h, -⟩
    · cases hc.symm.trans h
    · cases hf.symm.trans h
    · cases hc.symm.trans h
  exact xcvXchg_accepted hlink hx hm hnot

/-! The class is tested first, whatever the state (R436). -/

theorem arbAcqFg_of_class (h : s.portCls ≠ .fg) (nb : Bool) : exec (.arbAcqFg nb) s = .refused .wrongClass := if_pos h

theorem arbRelFg_of_class (h : s.portCls ≠ .fg) : exec .arbRelFg s = .refused .wrongClass := if_pos h

theorem arbAcqBg_of_class (h : s.portCls ≠ .bg) : exec .arbAcqBg s = .refused .wrongClass := if_pos h

theorem arbRelBg_of_class (h : s.portCls ≠ .bg) : exec .arbRelBg s = .refused .wrongClass := if_pos h

theorem xcvXchg_of_class (h : s.portCls = .consumer) : exec .xcvXchg s = .refused .wrongClass :=
  xcvXchg_of_linkRefusal (by simp [linkRefusal, h])

theorem mbxTake_of_class (h : s.portCls ≠ .consumer) (nb : Bool) : exec (.mbxTake nb) s = .refused .wrongClass :=
  if_pos h

theorem mbxPost_of_class (hb : s.portCls ≠ .bg) (hw : s.portCls ≠ .worker) : exec .mbxPost s = .refused .wrongClass :=
  if_pos ⟨hb, hw⟩

theorem mbxClr_of_class (h : s.portCls ≠ .worker) : exec .mbxClr s = .refused .wrongClass := if_pos h

theorem mbxGone_of_class (h : s.portCls ≠ .worker) : exec .mbxGone s = .refused .wrongClass := if_pos h

theorem lnkRst_of_class (h : s.portCls ≠ .worker) : exec .lnkRst s = .refused .wrongClass := if_pos h

theorem statClr_of_class (h : s.portCls ≠ .worker) : exec .statClr s = .refused .wrongClass := if_pos h

/-! The connection state is tested next (R436, logs 21 and 46). -/

section ConnState

variable (hn : s.connState ≠ .connected) (hf : s.connState ≠ .failed)

include hn hf

theorem arbAcqBg_of_connState (hc : s.portCls = .bg) : exec .arbAcqBg s = .refused .wrongConnState := by
  simp [exec, execArbAcqBg, hc, hn, hf]

theorem arbRelBg_of_connState (hc : s.portCls = .bg) : exec .arbRelBg s = .refused .wrongConnState := by
  simp [exec, execArbRelBg, hc, hn, hf]

theorem xcvXchg_bg_of_connState (hc : s.portCls = .bg) : exec .xcvXchg s = .refused .wrongConnState :=
  xcvXchg_of_linkRefusal (by simp [linkRefusal, hc, hn, hf])

theorem mbxPost_of_connState (hc : s.portCls = .bg ∨ s.portCls = .worker) (hm : s.mbxLen ≠ -1) :
    exec .mbxPost s = .refused .wrongConnState := by
  rcases hc with hc | hc <;> simp [exec, execMbxPost, hc, hn, hf, hm]

theorem mbxTake_of_connState (hc : s.portCls = .consumer) (hm : s.mbxLen ≠ -1) (nb : Bool) :
    exec (.mbxTake nb) s = .refused .wrongConnState := by
  simp [exec, execMbxTake, hc, hn, hf, hm]

end ConnState

section Initiating

variable (hc : s.portCls = .worker) (hn : s.connState ≠ .initiating)

include hc hn

theorem mbxClr_of_connState : exec .mbxClr s = .refused .wrongConnState := by simp [exec, execMbxClr, hc, hn]

theorem lnkRst_of_connState : exec .lnkRst s = .refused .wrongConnState := by simp [exec, execLnkRst, hc, hn]

theorem xcvXchg_worker_of_connState : exec .xcvXchg s = .refused .wrongConnState :=
  xcvXchg_of_linkRefusal (by simp [linkRefusal, hc, hn])

theorem statClr_of_connState (hp : ¬ (s.connState = .connected ∧ s.cfg.statResetPolicy = .everyTransition)) :
    exec .statClr s = .refused .wrongConnState := by
  have hadm : statClrAdmitted s = false := by simpa [statClrAdmitted, hn] using hp
  simp [exec, execStatClr, hc, hadm]

end Initiating

theorem mbxGone_of_connState (hc : s.portCls = .worker) (hn : s.connState ≠ .connected) (hs : s.stop = false) :
    exec .mbxGone s = .refused .wrongConnState := by
  simp [exec, execMbxGone, hc, hn, hs]

/-! Outside the registration of the device no requester and no consumer calls (R433, log 43). -/

theorem mbxTake_of_unregistered (hc : s.portCls = .consumer) (hm : s.mbxLen ≠ -1) (hn : s.connState = .connected)
    (hr : s.registered = false) (nb : Bool) : exec (.mbxTake nb) s = .refused .notRegistered := by
  simp [exec, execMbxTake, hc, hm, hn, hr]

theorem fgWaits_eq_false {a : Nat} (h : ∀ w ∈ s.fgWaiters, w.agent ≠ a) : s.fgWaits a = false := by
  simpa [State.fgWaits] using h

theorem arbAcqFg_of_unregistered (hc : s.portCls = .fg) (hn : s.connState = .connected) (hr : s.registered = false)
    (ho : ¬ (s.linkOwner = .fg ∧ s.fgHolder = s.portAgent)) (hw : ∀ w ∈ s.fgWaiters, w.agent ≠ s.portAgent) (nb : Bool) :
    exec (.arbAcqFg nb) s = .refused .notRegistered := by
  simp [exec, execArbAcqFg, hc, hn, hr, ho, fgWaits_eq_false hw]

/-! In `Failed` the operations gated on `Connected` answer `DeviceGone` (U14, log 46). -/

section Failed

variable (hf : s.connState = .failed)

include hf

theorem arbAcqBg_of_failed (hc : s.portCls = .bg) : exec .arbAcqBg s = .next (s.raise .deviceGone) := by
  simp [exec, execArbAcqBg, hc, hf]

theorem arbRelBg_of_failed (hc : s.portCls = .bg) (ho : s.linkOwner = .bg) (hx : s.xcvState = .idle) :
    exec .arbRelBg s = .next (s.raise .deviceGone) := by
  have hrel : releaseBg s = .ok { s with linkOwner := .none } := by
    simp [releaseBg, require, ho, hx, bind, Except.bind, pure, Except.pure]
  simp [exec, execArbRelBg, hc, hf, hrel, outcome, Except.map]

theorem mbxPost_of_failed (hc : s.portCls = .bg ∨ s.portCls = .worker) (h1 : 1 ≤ s.cmdData.length)
    (h2 : s.cmdData.length ≤ s.cfg.mbxCapacity) : exec .mbxPost s = .next (s.raise .deviceGone) := by
  rcases hc with hc | hc <;> simp [exec, execMbxPost, hc, hf, h1, h2]

theorem mbxTake_of_failed (hc : s.portCls = .consumer) (hm : s.mbxLen ≠ -1) (hb : s.consumerBusy s.portAgent = false)
    (nb : Bool) : exec (.mbxTake nb) s = .next (s.raise .deviceGone) := by
  simp [exec, execMbxTake, hc, hf, hm, hb]

end Failed

theorem raise_of_class {c : Cls} (hc : s.portCls = c) (x : Status) :
    s.raise x = { s with answers := ⟨c, s.portAgent, x, []⟩ :: s.answers } := by
  subst hc
  rfl

theorem xchgInFailed_of_class {c : Cls} (hc : s.portCls = c) :
    xchgInFailed s = { s with
      transmissionErrors := (s.transmissionErrors + 1) % 2 ^ s.cfg.ctrWidth
      answers := ⟨c, s.portAgent, .deviceGone, []⟩ :: s.answers } := by
  subst hc
  rfl

theorem consumerBusy_eq_false {a : Nat} (hh : a ∉ s.mbxHeld) (hi : ∀ c, s.mbxInside = some c → c.agent ≠ a) :
    s.consumerBusy a = false := by
  cases hc : s.mbxInside with
  | none => simp [State.consumerBusy, hc, hh]
  | some c => simp [State.consumerBusy, hc, hh, hi c hc]

/-! `XCV.XCHG` of an issuer that does not hold the link, or is inside a sequence of its own (R84, R191 (b), log 13). -/

theorem xcvXchg_fg_of_not_owner (hc : s.portCls = .fg) (ho : ¬ (s.linkOwner = .fg ∧ s.fgHolder = s.portAgent)) :
    exec .xcvXchg s = .refused .linkNotHeld :=
  xcvXchg_of_linkRefusal (by simp [linkRefusal, hc, ho])

theorem xcvXchg_bg_of_not_owner (hc : s.portCls = .bg) (hn : s.connState = .connected ∨ s.connState = .failed)
    (ho : s.linkOwner ≠ .bg) : exec .xcvXchg s = .refused .linkNotHeld :=
  xcvXchg_of_linkRefusal (by rcases hn with hn | hn <;> simp [linkRefusal, hc, hn, ho])

theorem xcvXchg_worker_of_owned (hc : s.portCls = .worker) (hn : s.connState = .initiating) (ho : s.linkOwner ≠ .none) :
    exec .xcvXchg s = .refused .linkBusy :=
  xcvXchg_of_linkRefusal (by simp [linkRefusal, hc, hn, ho])

theorem xcvXchg_of_workerInSequence
    (h : (s.portCls = .bg ∧ (s.connState = .connected ∨ s.connState = .failed) ∧ s.linkOwner = .bg) ∨
      (s.portCls = .worker ∧ s.connState = .initiating ∧ s.linkOwner = .none))
    (hw : s.workerInSequence = true) : exec .xcvXchg s = .refused .agentBlocked := by
  refine xcvXchg_of_linkRefusal ?_
  rcases h with ⟨hc, hn | hn, ho⟩ | ⟨hc, hn, ho⟩
  · simp [linkRefusal, hc, hn, ho, hw]
  · simp [linkRefusal, hc, hn, ho, hw]
  · simp [linkRefusal, hc, hn, ho, hw]

/-- Settles O42: each operation's gates in the order they are tested. -/
theorem classAndStateGate : Obligations.ClassAndStateGate := by
  intro s
  refine ⟨fun h => ⟨arbAcqFg_of_class h, arbRelFg_of_class h⟩, fun h => ⟨arbAcqBg_of_class h, arbRelBg_of_class h⟩,
    xcvXchg_of_class, mbxTake_of_class, mbxPost_of_class,
    fun h => ⟨mbxClr_of_class h, mbxGone_of_class h, lnkRst_of_class h, statClr_of_class h⟩,
    fun hc hn hf => ⟨arbAcqBg_of_connState hn hf hc, arbRelBg_of_connState hn hf hc, xcvXchg_bg_of_connState hn hf hc,
      mbxPost_of_connState hn hf (.inl hc)⟩,
    fun hc => ⟨fun hn => ⟨mbxClr_of_connState hc hn, lnkRst_of_connState hc hn, xcvXchg_worker_of_connState hc hn⟩,
      fun hn hf => mbxPost_of_connState hn hf (.inr hc), mbxGone_of_connState hc, statClr_of_connState hc⟩,
    fun hc hm => ⟨fun hn hf => mbxTake_of_connState hn hf hc hm, mbxTake_of_unregistered hc hm⟩,
    fun hf => ⟨fun hc => ⟨?_, ?_, ?_⟩, ?_, ?_⟩, arbAcqFg_of_unregistered, xcvXchg_fg_of_not_owner,
    xcvXchg_bg_of_not_owner, xcvXchg_worker_of_owned, xcvXchg_of_workerInSequence, fun hissuer => ⟨?_, ?_⟩⟩
  · rw [arbAcqBg_of_failed hf hc, raise_of_class hc]
  · intro ho hx
    rw [arbRelBg_of_failed hf hc ho hx, raise_of_class hc]
  · intro ho hw hx hm
    have hlink : linkRefusal s = none := linkRefusal_eq_none (.inr (.inl ⟨hc, .inr hf, ho, hw⟩))
    rw [xcvXchg_of_failed hlink hx hm hc hf, xchgInFailed_of_class hc]
  · exact mbxPost_of_failed hf
  · intro hc hm hh hi nb
    rw [mbxTake_of_failed hf hc hm (consumerBusy_eq_false hh hi), raise_of_class hc]
  · exact xcvXchg_of_busy (linkRefusal_eq_none hissuer)
  · exact fun hx hm => xcvXchg_of_malformed (linkRefusal_eq_none hissuer) hx (isMessage_eq_false_iff.2 hm)

end Sys2Proof.Laws

/-! PROOFS. The command word (R120 to R122): decoding inverts encoding, a step runs the operation a word decodes to, and a
word of no row is answered `IllegalCommand`; and the frame that `FRM.ENC` builds (R100, R162). -/

namespace Sys2Proof.Laws

open Sys2Proof.Machine

variable {s : State} {c : Command} {rest : List Input} {w : Word} {i j : Instr} {imm : Byte}

/-! The fields of a word (R120). -/

theorem wordOf_fields (w : Word) : wordOf (unitField w) (fnField w) (immField w) = w := by
  have happend : unitField w ++ fnField w = w.extractLsb' 8 8 := BitVec.extractLsb'_append_extractLsb'_eq_extractLsb' rfl
  have hall : w.extractLsb' 8 8 ++ immField w = w.extractLsb' 0 16 :=
    BitVec.extractLsb'_append_extractLsb'_eq_extractLsb' rfl
  rw [wordOf, happend, hall, BitVec.extractLsb'_eq_self]

theorem decode_wordOf (unit fn : BitVec 4) (imm : Byte) :
    decode (wordOf unit fn imm) = decodeFields unit.toNat fn.toNat imm := by
  have hunit : unitField (wordOf unit fn imm) = unit := by
    rw [unitField, wordOf, BitVec.extractLsb'_append_eq_of_le (by decide)]
    exact BitVec.extractLsb'_append_eq_left
  have hfn : fnField (wordOf unit fn imm) = fn := by
    rw [fnField, wordOf, BitVec.extractLsb'_append_eq_of_le (by decide)]
    exact BitVec.extractLsb'_append_eq_right
  have himm : immField (wordOf unit fn imm) = imm := BitVec.extractLsb'_append_eq_right
  rw [decode, hunit, hfn, himm]

/-! The immediate (R121): what each kind of operation admits there. -/

theorem plainOp_eq_ok : plainOp imm j = .ok i ↔ imm = 0 ∧ i = j := by
  unfold plainOp
  split
  · next h => simp [h, eq_comm]
  · next h => exact iff_of_false nofun fun hi => h hi.1

/-- An operation with an argument in `imm`: the test `p` of the mask admits exactly the immediates that `enc` makes, and
`get` reads their argument back. -/
theorem argOp_eq_ok {α : Type} {p : Prop} [Decidable p] {get : Byte → α} {enc : α → Byte} {op : α → Instr}
    (hp : p ↔ imm = enc (get imm)) (hget : ∀ x, get (enc x) = x) :
    (if p then Except.ok (op (get imm)) else Except.error DecodeError.nonzeroImm) = Except.ok i ↔
      ∃ x, imm = enc x ∧ i = op x := by
  split
  · next h =>
    constructor
    · intro hi
      exact ⟨_, hp.1 h, (Except.ok.inj hi).symm⟩
    · rintro ⟨x, rfl, rfl⟩
      rw [hget]
  · next h =>
    refine iff_of_false nofun ?_
    rintro ⟨x, rfl, -⟩
    exact h (hp.2 (by rw [hget]))

theorem eq_flagImm_iff (imm : Byte) : imm.extractLsb' 1 7 = 0 ↔ imm = flagImm (imm.getLsbD 0) := by
  revert imm; decide +kernel

theorem getLsbD_flagImm (nb : Bool) : (flagImm nb).getLsbD 0 = nb := by cases nb <;> rfl

theorem flagOp_eq_ok {op : Bool → Instr} : flagOp imm op = .ok i ↔ ∃ nb, imm = flagImm nb ∧ i = op nb :=
  argOp_eq_ok (get := fun imm => imm.getLsbD 0) (eq_flagImm_iff imm) getLsbD_flagImm

theorem eq_counterImm_iff (imm : Byte) :
    imm.extractLsb' 2 6 = 0 ↔ imm = (0 : BitVec 6) ++ counterIndex (counterOf (imm.extractLsb' 0 2)) := by
  revert imm; decide +kernel

theorem counterOf_counterImm (k : Counter) :
    counterOf (((0 : BitVec 6) ++ counterIndex k : Byte).extractLsb' 0 2) = k := by cases k <;> rfl

theorem counterOp_eq_ok {op : Counter → Instr} :
    counterOp imm op = .ok i ↔ ∃ k, imm = (0 : BitVec 6) ++ counterIndex k ∧ i = op k :=
  argOp_eq_ok (get := fun imm => counterOf (imm.extractLsb' 0 2)) (eq_counterImm_iff imm) counterOf_counterImm

/-! Decoding and encoding, row by row of the table of R121. -/

theorem decode_encode (i : Instr) : decode (encode i) = .ok i := by
  cases i with
  | crcByte bb => exact decode_wordOf 1 1 bb
  | arbAcqFg nb => exact (decode_wordOf 4 0 (flagImm nb)).trans (flagOp_eq_ok.2 ⟨nb, rfl, rfl⟩)
  | mbxTake nb => exact (decode_wordOf 5 2 (flagImm nb)).trans (flagOp_eq_ok.2 ⟨nb, rfl, rfl⟩)
  | statRd k => exact (decode_wordOf 7 1 _).trans (counterOp_eq_ok.2 ⟨k, rfl, rfl⟩)
  | _ => rfl

/-- The fields that the table gives an operation are those of its word. -/
theorem wordOf_eq_encode {unit fn : BitVec 4} {u f : Nat} (hu : unit.toNat = u) (hf : fn.toNat = f)
    (hi : encode i = wordOf (BitVec.ofNat 4 u) (BitVec.ofNat 4 f) imm) : wordOf unit fn imm = encode i := by
  subst hu hf
  simpa using hi.symm

theorem wordOf_of_plainOp {unit fn : BitVec 4} {u f : Nat} (hu : unit.toNat = u) (hf : fn.toNat = f)
    (h : plainOp imm j = .ok i) (hj : encode j = wordOf (BitVec.ofNat 4 u) (BitVec.ofNat 4 f) 0) :
    wordOf unit fn imm = encode i := by
  obtain ⟨rfl, rfl⟩ := plainOp_eq_ok.1 h
  exact wordOf_eq_encode hu hf hj

theorem wordOf_of_flagOp {unit fn : BitVec 4} {u f : Nat} {op : Bool → Instr} (hu : unit.toNat = u) (hf : fn.toNat = f)
    (h : flagOp imm op = .ok i)
    (hop : ∀ nb, encode (op nb) = wordOf (BitVec.ofNat 4 u) (BitVec.ofNat 4 f) (flagImm nb)) :
    wordOf unit fn imm = encode i := by
  obtain ⟨nb, rfl, rfl⟩ := flagOp_eq_ok.1 h
  exact wordOf_eq_encode hu hf (hop nb)

/-- Every row that answers an operation is a row of the encoder: the rows with an argument one by one, the rest plain or
an error. -/
theorem wordOf_of_decodeFields {unit fn : BitVec 4} (h : decodeFields unit.toNat fn.toNat imm = .ok i) :
    wordOf unit fn imm = encode i := by
  unfold decodeFields at h
  split at h
  case h_2 hu hf =>
    cases h
    exact wordOf_eq_encode hu hf rfl
  case h_11 hu hf => exact wordOf_of_flagOp hu hf h fun _ => rfl
  case h_18 hu hf => exact wordOf_of_flagOp hu hf h fun _ => rfl
  case h_24 hu hf =>
    obtain ⟨k, rfl, rfl⟩ := counterOp_eq_ok.1 h
    exact wordOf_eq_encode hu hf rfl
  case h_4 | h_8 | h_10 | h_15 | h_20 | h_22 | h_25 | h_26 => cases h
  all_goals
    next hu hf => exact wordOf_of_plainOp hu hf h rfl

theorem decode_eq_ok_iff : decode w = .ok i ↔ w = encode i := by
  constructor
  · intro h
    rw [← wordOf_fields w]
    exact wordOf_of_decodeFields h
  · rintro rfl
    exact decode_encode i

/-- Settles O2: decoding gives every operation back, and the fields of a word that decodes are those of the operation. -/
theorem decodeIffEncode : Obligations.DecodeIffEncode := fun _ _ => decode_eq_ok_iff

/-- Settles O1: each word is the one its operation is encoded as. -/
theorem decodeSampleWords : Obligations.DecodeSampleWords := by
  simp only [Obligations.DecodeSampleWords, decode_eq_ok_iff]
  decide

/-! A word of no row is illegal (R122). -/

theorem rowOf_mem_opcodeTable (i : Instr) : rowOf i ∈ opcodeTable := by cases i <;> simp [opcodeTable, rowOf]

/-- The lemmas of `RowMatch` as one. -/
theorem rowMatch (i : Instr) : RowMatch.Statement i := by
  cases i with
  | crcClr => exact RowMatch.crcClr
  | crcByte bb => exact RowMatch.crcByte bb
  | crcRd => exact RowMatch.crcRd
  | frmEnc => exact RowMatch.frmEnc
  | frmVal => exact RowMatch.frmVal
  | frmDec => exact RowMatch.frmDec
  | xcvXchg => exact RowMatch.xcvXchg
  | arbAcqFg nb => exact RowMatch.arbAcqFg nb
  | arbRelFg => exact RowMatch.arbRelFg
  | arbAcqBg => exact RowMatch.arbAcqBg
  | arbRelBg => exact RowMatch.arbRelBg
  | mbxClr => exact RowMatch.mbxClr
  | mbxPost => exact RowMatch.mbxPost
  | mbxTake nb => exact RowMatch.mbxTake nb
  | mbxGone => exact RowMatch.mbxGone
  | lnkRst => exact RowMatch.lnkRst
  | statClr => exact RowMatch.statClr
  | statRd k => exact RowMatch.statRd k

/-- Otherwise the word would belong to the row of the operation it decodes to. -/
theorem decode_error_of_no_row (h : ∀ r ∈ opcodeTable, r.holds w = false) : ∃ e, decode w = .error e := by
  cases hdec : decode w with
  | error e => exact ⟨e, rfl⟩
  | ok i =>
    obtain rfl := decode_eq_ok_iff.1 hdec
    have hholds : (rowOf i).holds (encode i) = true := (rowMatch i _ (rowOf_mem_opcodeTable i)).2 rfl
    exact absurd (h _ (rowOf_mem_opcodeTable i)) (by simp [hholds])

/-! A step on a command (R84, R120). -/

theorem step_of_decode_ok (hl : live s) (hi : s.inputs = .command c :: rest) (hdec : decode c.word = .ok i) :
    step s = exec i (acceptCommand { s with inputs := rest } c) := by
  obtain ⟨hd, hw⟩ := hl
  simp [step, hd, hw, hi, hdec]

theorem step_of_decode_error {e : DecodeError} (hl : live s) (hi : s.inputs = .command c :: rest)
    (hdec : decode c.word = .error e) :
    step s = .next (illegalCommand (acceptCommand { s with inputs := rest } c)) := by
  obtain ⟨hd, hw⟩ := hl
  simp [step, hd, hw, hi, hdec]

/-- Settles O4: `acceptCommand` is the update of the port's registers. -/
theorem stepRunsDecoded : Obligations.StepRunsDecoded := fun _ _ _ _ => step_of_decode_ok

/-- Settles O3: such a word does not decode, since a word that does belongs to its operation's row. -/
theorem illegalWordAnswered : Obligations.IllegalWordAnswered := by
  refine ⟨fun s c rest hl hi hrow => ?_, by decide, by decide⟩
  obtain ⟨e, he⟩ := decode_error_of_no_row hrow
  exact step_of_decode_error hl hi he

/-! The frame of a message (R100, R105, R106). -/

section frame

variable {c : Config} {n : Nat} {m : List Byte}

theorem length_trailer (c : Config) (v : Word) : (trailer c v).length = 2 := by
  unfold trailer
  split <;> rfl

theorem length_frameBody (h : m.length ≤ n - 2) : (frameBody c n m).length = n - 2 := by
  rw [frameBody, List.length_append, List.length_replicate]
  omega

theorem length_frameOf (h : m.length ≤ n - 2) (hn : 2 ≤ n) : (frameOf c n m).length = n := by
  rw [frameOf, List.length_append, length_frameBody h, length_trailer]
  omega

theorem take_frameOf (h : m.length ≤ n - 2) : (frameOf c n m).take (n - 2) = frameBody c n m :=
  List.take_left' (length_frameBody h)

theorem drop_frameOf (h : m.length ≤ n - 2) : (frameOf c n m).drop (n - 2) = trailer c (crc16 c (frameBody c n m)) :=
  List.drop_left' (length_frameBody h)

theorem take_length_frameOf : (frameOf c n m).take m.length = m := by
  rw [frameOf, frameBody, List.append_assoc, List.take_left]

theorem getElem?_frameOf_fill {k : Nat} (hm : m.length ≤ k) (hk : k < n - 2) : (frameOf c n m)[k]? = some c.padByte := by
  have hbody : k < (frameBody c n m).length := by
    rw [length_frameBody (by omega)]
    exact hk
  have hfill : k - m.length < n - 2 - m.length := by omega
  rw [frameOf, List.getElem?_append_left hbody, frameBody, List.getElem?_append_right hm, List.getElem?_replicate,
    if_pos hfill]

/-- The length field of a message is its byte count, at least a header's (R110 (a), R165). -/
theorem isMessage_eq_true_iff : isMessage m = true ↔ 4 ≤ m.length ∧ lengthField m = m.length := by
  simp only [isMessage, Bool.and_eq_true, decide_eq_true_eq]
  exact Iff.rfl

/-- `encode` of a message that fits and selects the 2-byte CRC (R162 to R164). -/
theorem encodeFrame_of_le (hlen : lengthField m = m.length) (hfit : m.length ≤ n - 2)
    (hcrc : m.length ≤ c.crc16MaxLength) : encodeFrame c n m = .ok (frameOf c n m) := by
  have hsel : crcsel c (lengthField m) ≠ crcSizeReserved := by simp [crcsel, hlen, hcrc, crcSizeDefault, crcSizeReserved]
  rw [encodeFrame, if_neg hsel, if_neg (by omega)]

end frame

/-! `FRM.ENC` (R162). -/

theorem storeFrame_of_le {f : List Byte} (h : f.length ≤ s.cfg.maximumFrameSize) :
    storeFrame s f = .ok { s with txBuf := s.txBuf.write 0 f, crcSize := 2 } := by
  rw [storeFrame, memWrite_of_le (by simpa [capacity] using h)]
  rfl

theorem frmEnc_of_encodeFrame {f : List Byte} (hm : isMessage s.cmdData = true)
    (hf : encodeFrame s.cfg s.frameSize s.cmdData = .ok f) (hcap : f.length ≤ s.cfg.maximumFrameSize) :
    exec .frmEnc s = .next ({ s with txBuf := s.txBuf.write 0 f, crcSize := 2 }.answer .ok f) := by
  simp [exec, execFrmEnc, hm, hf, storeFrame_of_le hcap, Except.map, outcome]

/-- Settles O12: the frame is `frameOf` of the operand, and `tx_buf` is what a write of it from offset 0 leaves. -/
theorem frmEncBuildsFrame : Obligations.FrmEncBuildsFrame := by
  intro s hm hfit hcrc hmax
  obtain ⟨hmin, hlen⟩ := isMessage_eq_true_iff.1 hm
  have hsize : (frameOf s.cfg s.frameSize s.cmdData).length = s.frameSize := length_frameOf hfit (by omega)
  refine ⟨_, _, frmEnc_of_encodeFrame hm (encodeFrame_of_le hlen hfit hcrc) (hsize.trans_le hmax), hsize,
    take_length_frameOf, fun _ => getElem?_frameOf_fill, ?_, rfl, fun a => ?_⟩
  · rw [drop_frameOf hfit, take_frameOf hfit]
  · simp [State.byte, State.buf, State.answer, get_write, hsize]

end Sys2Proof.Laws

/-! PROOFS. The CRC unit (40_crc.md): its operations (R146 to R149); the byte step as a linear, and under a generator with a
constant term injective, map of the register (R144); the residue and the detection of one changed byte (R150, R151). -/

namespace Sys2Proof.Laws

open Sys2Proof.Machine

variable {c : Config} {s t : State} {p : Word}

/-! The operations (R146 to R148). -/

/-- Settles O5: it is the meaning of the operation. -/
theorem crcClrSetsInit : Obligations.CrcClrSetsInit := fun _ => rfl

/-- Settles O6, by the one test of the operation. -/
theorem crcByteFolds : Obligations.CrcByteFolds := fun _ _ => ⟨fun hw => if_pos hw, fun hw => if_neg (by simp [hw])⟩

/-- Settles O7, by the one test of the operation. -/
theorem crcRdAnswers : Obligations.CrcRdAnswers := fun _ => ⟨fun hw => if_pos hw, fun hw => if_neg (by simp [hw])⟩

/-! `CRC.BLK` (R149). -/

theorem execAll_cons_of_next {i : Instr} (h : exec i s = .next t) (is : List Instr) :
    execAll (i :: is) s = execAll is t := by
  simp only [execAll, h]

/-- A run of `CRC.BYTE` folds its bytes into a written accumulator and answers `Ok` to each. -/
theorem execAll_crcBytes (bytes : List Byte) (is : List Instr) (hw : s.crcWritten = true) :
    execAll (bytes.map .crcByte ++ is) s = execAll is { s with
      crcAcc := crcFold s.cfg s.crcAcc bytes
      answers := List.replicate bytes.length ⟨s.portCls, s.portAgent, .ok, []⟩ ++ s.answers } := by
  induction bytes generalizing s with
  | nil => rfl
  | cons b bytes ih =>
    rw [List.map_cons, List.cons_append, execAll_cons_of_next ((crcByteFolds s b).1 hw), ih (by exact hw),
      List.length_cons, List.replicate_succ', List.append_assoc]
    rfl

/-- Settles O9: `CRC.CLR` writes the accumulator, so that neither the bytes nor `CRC.RD` is refused. -/
theorem crcBlkComputesCrc : Obligations.CrcBlkComputesCrc := by
  intro s bytes
  have hacc : crcFold s.cfg s.cfg.crcInit bytes = crc16 s.cfg bytes ^^^ s.cfg.crcXorout := by
    rw [crc16, BitVec.xor_assoc, BitVec.xor_self, BitVec.xor_zero]
  have hrun : execAll (crcBlk bytes) s = _ :=
    (execAll_cons_of_next (crcClrSetsInit s) _).trans <|
      (execAll_crcBytes bytes _ rfl).trans <| execAll_cons_of_next ((crcRdAnswers _).1 rfl) []
  refine ⟨_, hrun, ?_, ?_⟩
  · rw [← hacc]
  · rw [List.replicate_succ', List.append_assoc]
    rfl

/-! The shifts of the register are linear over xor (R144). -/

/-- The feedback of a shift: the polynomial once for each of two operands whose outgoing bit is set. -/
theorem feedback_xor (a b : Bool) (u v p : Word) :
    (if a ^^ b then (u ^^^ v) ^^^ p else u ^^^ v) = (if a then u ^^^ p else u) ^^^ (if b then v ^^^ p else v) := by
  cases a <;> cases b
  case true.true =>
    calc u ^^^ v = u ^^^ v ^^^ (p ^^^ p) := by rw [BitVec.xor_self, BitVec.xor_zero]
      _ = (u ^^^ p) ^^^ (v ^^^ p) := by ac_rfl
  case true.false => exact (show u ^^^ v ^^^ p = u ^^^ p ^^^ v by ac_rfl)
  case false.true => exact BitVec.xor_assoc u v p
  case false.false => rfl

theorem shiftLeftStep_xor (p x y : Word) : shiftLeftStep p (x ^^^ y) = shiftLeftStep p x ^^^ shiftLeftStep p y := by
  rw [shiftLeftStep, BitVec.msb_xor, BitVec.shiftLeft_xor_distrib]
  exact feedback_xor _ _ _ _ _

theorem shiftRightStep_xor (p x y : Word) :
    shiftRightStep p (x ^^^ y) = shiftRightStep p x ^^^ shiftRightStep p y := by
  rw [shiftRightStep, BitVec.getLsbD_xor, BitVec.ushiftRight_xor_distrib]
  exact feedback_xor _ _ _ _ _

theorem iterate_xor {f : Word → Word} (hf : ∀ x y, f (x ^^^ y) = f x ^^^ f y) (k : Nat) (x y : Word) :
    f^[k] (x ^^^ y) = f^[k] x ^^^ f^[k] y := by
  induction k with
  | zero => rfl
  | succ k ih => simp only [Function.iterate_succ_apply', ih, hf]

/-- A byte in the low half of the register is shifted up with no feedback. -/
theorem iterate_shiftLeftStep_low (p : Word) (b : Byte) {k : Nat} (hk : k ≤ 8) :
    (shiftLeftStep p)^[k] (b.setWidth 16) = b.setWidth 16 <<< k := by
  induction k with
  | zero => simp
  | succ k ih =>
    have hmsb : (b.setWidth 16 <<< k).msb = false := by
      rw [BitVec.msb_eq_getLsbD_last, BitVec.getLsbD_shiftLeft, BitVec.getLsbD_setWidth,
        BitVec.getLsbD_of_ge b _ (by omega), Bool.and_false, Bool.and_false]
    rw [Function.iterate_succ_apply', ih (by omega), shiftLeftStep, hmsb, BitVec.shiftLeft_add]
    rfl

/-- A byte in the high half of the register is shifted down with no feedback. -/
theorem iterate_shiftRightStep_high (p : Word) (b : Byte) {k : Nat} (hk : k ≤ 8) :
    (shiftRightStep p)^[k] (b.setWidth 16 <<< 8) = (b.setWidth 16 <<< 8) >>> k := by
  induction k with
  | zero => simp
  | succ k ih =>
    have hlsb : ((b.setWidth 16 <<< 8) >>> k).getLsbD 0 = false := by
      rw [BitVec.getLsbD_ushiftRight, BitVec.getLsbD_shiftLeft]
      simp [show k < 8 by omega]
    rw [Function.iterate_succ_apply', ih (by omega), shiftRightStep, hlsb, BitVec.shiftRight_add]
    rfl

/-! The byte step (R144). -/

/-- The register is its two bytes. -/
theorem word_eq_bytes (w : Word) :
    w = ((w.extractLsb' 8 8).setWidth 16 <<< 8) ^^^ (w.extractLsb' 0 8).setWidth 16 := by
  refine BitVec.eq_of_getLsbD_eq fun i hi => ?_
  simp only [BitVec.getLsbD_xor, BitVec.getLsbD_shiftLeft, BitVec.getLsbD_setWidth, BitVec.getLsbD_extractLsb']
  grind

theorem low_shiftLeft (w : Word) : (w.extractLsb' 0 8).setWidth 16 <<< 8 = w <<< 8 := by
  refine BitVec.eq_of_getLsbD_eq fun i hi => ?_
  simp only [BitVec.getLsbD_shiftLeft, BitVec.getLsbD_setWidth, BitVec.getLsbD_extractLsb']
  grind

theorem high_shiftRight (w : Word) : ((w.extractLsb' 8 8).setWidth 16 <<< 8) >>> 8 = w >>> 8 := by
  refine BitVec.eq_of_getLsbD_eq fun i hi => ?_
  simp only [BitVec.getLsbD_ushiftRight, BitVec.getLsbD_shiftLeft, BitVec.getLsbD_setWidth, BitVec.getLsbD_extractLsb']
  grind

theorem crcStep_unreflected (hr : c.crcRefin = false) (acc : Word) (b : Byte) :
    crcStep c acc b = (acc <<< 8) ^^^ crcTable c.crcPoly (acc.extractLsb' 8 8 ^^^ b) := by
  simp [crcStep, hr]

theorem crcStep_reflected (hr : c.crcRefin = true) (acc : Word) (b : Byte) :
    crcStep c acc b = (acc >>> 8) ^^^ crcTableReflected c.crcPoly (acc.extractLsb' 0 8 ^^^ b) := by
  simp [crcStep, hr]

/-- The bit-serial form: the low byte of the accumulator meets no feedback, the high byte and `b` are the table's index. -/
theorem crcStep_eq_shiftLeftStep (hr : c.crcRefin = false) (acc : Word) (b : Byte) :
    crcStep c acc b = (shiftLeftStep c.crcPoly)^[8] (acc ^^^ (b.setWidth 16 <<< 8)) := by
  have hsplit : acc ^^^ (b.setWidth 16 <<< 8) =
      (acc.extractLsb' 0 8).setWidth 16 ^^^ ((acc.extractLsb' 8 8 ^^^ b).setWidth 16 <<< 8) := by
    conv_lhs => rw [word_eq_bytes acc]
    rw [BitVec.setWidth_xor, BitVec.shiftLeft_xor_distrib]
    ac_rfl
  rw [hsplit, iterate_xor (shiftLeftStep_xor _), iterate_shiftLeftStep_low _ _ le_rfl, low_shiftLeft,
    crcStep_unreflected hr, crcTable]

/-- The reflected bit-serial form: the high byte of the accumulator meets no feedback, the low byte and `b` are the index. -/
theorem crcStep_eq_shiftRightStep (hr : c.crcRefin = true) (acc : Word) (b : Byte) :
    crcStep c acc b = (shiftRightStep c.crcPoly.reverse)^[8] (acc ^^^ b.setWidth 16) := by
  have hsplit : acc ^^^ b.setWidth 16 =
      ((acc.extractLsb' 8 8).setWidth 16 <<< 8) ^^^ (acc.extractLsb' 0 8 ^^^ b).setWidth 16 := by
    conv_lhs => rw [word_eq_bytes acc]
    rw [BitVec.setWidth_xor, BitVec.xor_assoc]
  rw [hsplit, iterate_xor (shiftRightStep_xor _), iterate_shiftRightStep_high _ _ le_rfl, high_shiftRight,
    crcStep_reflected hr, crcTableReflected]

/-- Settles O8: both forms by linearity of the shifts over xor; the table entries and the shifts are R143's and R144's. -/
theorem crcStepForms : Obligations.CrcStepForms :=
  ⟨fun _ acc b hr => ⟨crcStep_unreflected hr acc b, crcStep_eq_shiftLeftStep hr acc b⟩,
    fun _ acc b hr => ⟨crcStep_reflected hr acc b, crcStep_eq_shiftRightStep hr acc b⟩,
    fun _ _ => ⟨rfl, rfl⟩, fun _ _ => ⟨rfl, rfl⟩, rfl, by decide⟩

/-! The residue (R150). -/

theorem crcTable_zero (p : Word) : crcTable p 0#8 = 0#16 :=
  Function.iterate_fixed (f := shiftLeftStep p) rfl 8

theorem crcFold_append (c : Config) (acc : Word) (l r : List Byte) :
    crcFold c acc (l ++ r) = crcFold c (crcFold c acc l) r := List.foldl_append

/-- A register fed its own two bytes is 0, whatever the generator: each byte meets itself in the table's index. -/
theorem crcFold_wordBytes_self (hr : c.crcRefin = false) (w : Word) : crcFold c w (wordBytes w) = 0#16 := by
  have hhigh : crcStep c w (w.extractLsb' 8 8) = w <<< 8 := by
    rw [crcStep_unreflected hr, BitVec.xor_self, crcTable_zero, BitVec.xor_zero]
  have hindex : (w <<< 8).extractLsb' 8 8 = w.extractLsb' 0 8 := by
    refine BitVec.eq_of_getLsbD_eq fun i hi => ?_
    simp only [BitVec.getLsbD_extractLsb', BitVec.getLsbD_shiftLeft]
    grind
  have hout : w <<< 8 <<< 8 = 0#16 := by rw [← BitVec.shiftLeft_add]; exact BitVec.shiftLeft_eq_zero le_rfl
  calc crcFold c w (wordBytes w) = crcStep c (crcStep c w (w.extractLsb' 8 8)) (w.extractLsb' 0 8) := rfl
    _ = 0#16 := by rw [hhigh, crcStep_unreflected hr, hindex, BitVec.xor_self, crcTable_zero, hout, BitVec.xor_zero]

theorem crc16_append (hx : c.crcXorout = 0) (m r : List Byte) : crc16 c (m ++ r) = crcFold c (crc16 c m) r := by
  rw [crc16, crc16, hx, crcFold_append, BitVec.ofNat_eq_ofNat, BitVec.xor_zero, BitVec.xor_zero]

/-! A generator with a constant term: the byte step is injective in the register and in the byte. -/

theorem shiftLeftStep_eq_zero (hp : p.getLsbD 0 = true) {x : Word} (h : shiftLeftStep p x = 0) : x = 0 := by
  unfold shiftLeftStep at h
  split at h
  · have hbit : (x <<< 1 ^^^ p).getLsbD 0 = false := by rw [h]; rfl
    rw [BitVec.getLsbD_xor, BitVec.getLsbD_shiftLeft, hp] at hbit
    simp at hbit
  · next hmsb =>
    refine BitVec.eq_of_getLsbD_eq fun i hi => ?_
    by_cases htop : i = 15
    · subst htop
      simpa [BitVec.msb_eq_getLsbD_last] using hmsb
    · have hbit := congrArg (·.getLsbD (i + 1)) h
      simpa [show i + 1 < 16 by omega, hi] using hbit

theorem shiftLeftStep_injective (hp : p.getLsbD 0 = true) : Function.Injective (shiftLeftStep p) := by
  intro x y h
  rw [← BitVec.xor_eq_zero_iff] at h ⊢
  exact shiftLeftStep_eq_zero hp ((shiftLeftStep_xor p x y).trans h)

theorem crcStep_inj_acc (hr : c.crcRefin = false) (hp : c.crcPoly.getLsbD 0 = true) {v w : Word} {b : Byte}
    (h : crcStep c v b = crcStep c w b) : v = w := by
  rw [crcStep_eq_shiftLeftStep hr, crcStep_eq_shiftLeftStep hr] at h
  exact (BitVec.xor_left_inj _).1 ((shiftLeftStep_injective hp).iterate 8 h)

theorem crcStep_inj_byte (hr : c.crcRefin = false) (hp : c.crcPoly.getLsbD 0 = true) {v : Word} {a b : Byte}
    (h : crcStep c v a = crcStep c v b) : a = b := by
  rw [crcStep_eq_shiftLeftStep hr, crcStep_eq_shiftLeftStep hr] at h
  have hshift := (BitVec.xor_right_inj _).1 ((shiftLeftStep_injective hp).iterate 8 h)
  refine BitVec.eq_of_getLsbD_eq fun i hi => ?_
  have hbit := congrArg (·.getLsbD (i + 8)) hshift
  simpa [hi, show i + 8 < 16 by omega] using hbit

theorem crcFold_inj_acc (hr : c.crcRefin = false) (hp : c.crcPoly.getLsbD 0 = true) {v w : Word} {l : List Byte}
    (h : crcFold c v l = crcFold c w l) : v = w := by
  induction l generalizing v w with
  | nil => exact h
  | cons b l ih => exact crcStep_inj_acc hr hp (ih h)

/-- Two strings that differ in one byte have different CRCs. -/
theorem crc16_set_ne (hr : c.crcRefin = false) (hp : c.crcPoly.getLsbD 0 = true) {l : List Byte} {i : Nat} {x : Byte}
    (hi : i < l.length) (hx : x ≠ l[i]) : crc16 c (l.set i x) ≠ crc16 c l := by
  intro h
  have hfold : crcFold c c.crcInit (l.set i x) = crcFold c c.crcInit (l.take i ++ l[i] :: l.drop (i + 1)) := by
    rw [← List.drop_eq_getElem_cons hi, List.take_append_drop]
    exact (BitVec.xor_left_inj _).1 h
  rw [List.set_eq_take_append_cons_drop, if_pos hi, crcFold_append, crcFold_append] at hfold
  exact hx (crcStep_inj_byte hr hp (crcFold_inj_acc hr hp hfold))

/-! The CRC comparison (R166, R167) on a frame cut into its body and its trailer. -/

theorem byteAt_append_right (l r : List Byte) (k : Nat) : byteAt (l ++ r) (l.length + k) = byteAt r k := by
  rw [byteAt, List.getD_append_right _ _ _ _ (Nat.le_add_right _ _), Nat.add_sub_cancel_left, byteAt]

/-- The two bytes of a trailer, in either order, are read back as the word. -/
theorem receivedCrc_append_trailer (body : List Byte) (w : Word) :
    receivedCrc c (body.length + 2) (body ++ trailer c w) = w.toNat := by
  have hword : (w.extractLsb' 8 8).toNat * 256 + (w.extractLsb' 0 8).toNat = w.toNat := by
    rw [BitVec.extractLsb'_toNat, BitVec.extractLsb'_toNat]
    omega
  have hfirst : byteAt (body ++ trailer c w) body.length = byteAt (trailer c w) 0 := byteAt_append_right body _ 0
  have hsecond : byteAt (body ++ trailer c w) (body.length + 1) = byteAt (trailer c w) 1 := byteAt_append_right body _ 1
  rw [receivedCrc, be16, Nat.add_sub_cancel, Nat.add_succ_sub_one, hfirst, hsecond, trailer]
  split
  · exact hword
  · exact hword

theorem validateFrame_eq_crcMismatch_iff {n : Nat} {f : List Byte} :
    validateFrame c n f = .crcMismatch ↔ receivedCrc c n f ≠ (crc16 c (f.take (n - 2))).toNat := by
  unfold validateFrame
  split
  · next h => exact iff_of_true rfl h
  · next h => split <;> exact iff_of_false nofun h

theorem validateFrame_append_trailer {n : Nat} {body : List Byte} (hn : 2 ≤ n) (hb : body.length = n - 2) (w : Word) :
    validateFrame c n (body ++ trailer c w) = .crcMismatch ↔ w ≠ crc16 c body := by
  obtain rfl : n = body.length + 2 := by omega
  rw [validateFrame_eq_crcMismatch_iff, receivedCrc_append_trailer, List.take_left' hb, ne_eq, BitVec.toNat_inj]

/-- Any two bytes are the trailer of some word. -/
theorem exists_trailer_eq (c : Config) {l : List Byte} (hl : l.length = 2) : ∃ w, trailer c w = l := by
  obtain ⟨a, b, rfl⟩ := List.length_eq_two.1 hl
  have hbytes (a b : Byte) : wordBytes (a ++ b) = [a, b] := by
    rw [wordBytes, BitVec.extractLsb'_append_eq_left, BitVec.extractLsb'_append_eq_right]
  cases hbe : c.crcTrailerBe
  · exact ⟨b ++ a, by simp [trailer, hbe, hbytes]⟩
  · exact ⟨a ++ b, by simp [trailer, hbe, hbytes]⟩

/-- Settles O10: the register fed its own bytes is 0, and under a constant term no other register is 0 after them. -/
theorem crcResidueZero : Obligations.CrcResidueZero := by
  intro c hr hx hbe
  have hself (m : List Byte) : crc16 c (m ++ wordBytes (crc16 c m)) = 0 :=
    (crc16_append hx _ _).trans (crcFold_wordBytes_self hr _)
  refine ⟨hself, fun n f hp hn hf => ?_⟩
  obtain ⟨w, hw⟩ := exists_trailer_eq c (l := f.drop (n - 2)) (by rw [List.length_drop]; omega)
  have hbody : (f.take (n - 2)).length = n - 2 := by rw [List.length_take]; omega
  have htrailer : trailer c w = wordBytes w := by rw [trailer, if_pos hbe]
  rw [← List.take_append_drop (n - 2) f, ← hw, ne_eq, validateFrame_append_trailer hn hbody, not_not, htrailer,
    crc16_append hx]
  constructor
  · rintro rfl
    exact crcFold_wordBytes_self hr _
  · intro h
    exact crcFold_inj_acc hr hp ((crcFold_wordBytes_self hr w).trans h.symm)

/-! Detection (R151). -/

/-- A frame whose trailer is not that of its body's CRC. -/
theorem validateFrame_of_trailer_ne {n : Nat} {body l : List Byte} (hn : 2 ≤ n) (hb : body.length = n - 2)
    (hl : l.length = 2) (hne : l ≠ trailer c (crc16 c body)) : validateFrame c n (body ++ l) = .crcMismatch := by
  obtain ⟨w, rfl⟩ := exists_trailer_eq c hl
  exact (validateFrame_append_trailer hn hb w).2 fun hw => hne (hw ▸ rfl)

theorem set_ne_self {l : List Byte} {i : Nat} {x : Byte} (hi : i < l.length) (hx : x ≠ l[i]) : l.set i x ≠ l := by
  intro h
  have hset : (l.set i x)[i]? = l[i]? := by rw [h]
  rw [List.getElem?_set_self hi, List.getElem?_eq_getElem hi] at hset
  exact hx (Option.some.inj hset)

/-- Settles O11: a changed byte of the body changes the CRC of the body, one of the trailer changes the trailer. -/
theorem singleByteDetected : Obligations.SingleByteDetected := by
  intro c n m f i d hr hp hm hf hi hd
  obtain ⟨hmin, hlen⟩ := isMessage_eq_true_iff.1 hm
  obtain ⟨-, hfit, rfl⟩ := encodeFrame_ok hf
  have hn : 2 ≤ n := by omega
  have hbody : (frameBody c n m).length = n - 2 := length_frameBody (hlen ▸ hfit)
  have hsize : i < (frameOf c n m).length := by rwa [length_frameOf (hlen ▸ hfit) hn]
  have hne : byteAt (frameOf c n m) i ^^^ d ≠ (frameOf c n m)[i] := by
    rw [byteAt, List.getD_eq_getElem _ _ hsize]
    simpa using hd
  generalize byteAt (frameOf c n m) i ^^^ d = x at hne ⊢
  simp only [frameOf] at hne ⊢
  by_cases hin : i < (frameBody c n m).length
  · rw [List.getElem_append_left hin] at hne
    rw [List.set_append_left _ _ hin, validateFrame_append_trailer hn ((List.length_set ..).trans hbody)]
    exact (crc16_set_ne hr hp hin hne).symm
  · have htrailer : i - (frameBody c n m).length < (trailer c (crc16 c (frameBody c n m))).length := by
      rw [length_trailer]
      omega
    rw [List.getElem_append_right (not_lt.1 hin)] at hne
    rw [List.set_append_right _ _ (not_lt.1 hin)]
    exact validateFrame_of_trailer_ne hn hbody ((List.length_set ..).trans (length_trailer ..)) (set_ne_self htrailer hne)

end Sys2Proof.Laws

/-! PROOFS. The frame codec (41_frame_codec.md): what `FRM.ENC`, `FRM.VAL` and `FRM.DEC` answer (R163 to R170), the
round trip of a message (R171), and that neither the codec nor the transceiver depends on the CRC accumulator (R161). -/

namespace Sys2Proof.Laws

open Sys2Proof.Machine

variable {c : Config} {s t : State} {n : Nat} {m f : List Byte} {e : Status}

/-! A length field in range, or out of it (R164, R168). -/

theorem lengthOk_eq_false_iff : lengthOk n f = false ↔ be16 f 1 < 4 ∨ n - 2 < be16 f 1 := by
  rw [← Bool.not_eq_true, lengthOk_iff, lengthField]
  omega

theorem decodeFrame_of_lengthOk (h : lengthOk n f = true) : decodeFrame n f = .ok (f.take (lengthField f)) := if_pos h

theorem decodeFrame_of_not_lengthOk (h : lengthOk n f = false) : decodeFrame n f = .error .lengthInvalid :=
  if_neg (by simp [h])

/-- Behind a matching CRC the length decides (R166). -/
theorem validateFrame_of_crc_eq (h : receivedCrc c n f = (crc16 c (f.take (n - 2))).toNat) :
    validateFrame c n f = if lengthOk n f then .ok else .lengthInvalid := if_neg (not_not.2 h)

theorem encodeFrame_of_crc16MaxLength_lt (h : c.crc16MaxLength < lengthField m) :
    encodeFrame c n m = .error .notSupported := by
  have hsel : crcsel c (lengthField m) = crcSizeReserved := if_neg (not_le.2 h)
  rw [encodeFrame, if_pos hsel]

theorem encodeFrame_of_frameSize_lt (hcrc : lengthField m ≤ c.crc16MaxLength) (h : n - 2 < lengthField m) :
    encodeFrame c n m = .error .frameTooLarge := by
  have hsel : crcsel c (lengthField m) = crcSizeDefault := if_pos hcrc
  rw [encodeFrame, hsel, if_neg (by decide), if_pos h]

/-! The operations of the codec, by what their operand is (R165, R166, R170). -/

theorem frmEnc_of_encodeFrame_error (hm : isMessage s.cmdData = true)
    (he : encodeFrame s.cfg s.frameSize s.cmdData = .error e) : exec .frmEnc s = .next (s.raise e) := by
  simp [exec, execFrmEnc, hm, he]

theorem frmEnc_of_not_isMessage (hm : ¬ isMessage s.cmdData = true) : exec .frmEnc s = .refused .malformedMessage :=
  if_neg hm

theorem frmVal_of_length (h : s.cmdData.length = s.frameSize) :
    exec .frmVal s = .next (s.answer (validateFrame s.cfg s.frameSize s.cmdData) []) := if_pos h

theorem frmDec_of_decodeFrame_ok (h : s.cmdData.length = s.frameSize) (hd : decodeFrame s.frameSize s.cmdData = .ok m) :
    exec .frmDec s = .next (s.answer .ok m) := by
  simp [exec, execFrmDec, h, hd]

theorem frmDec_of_decodeFrame_error (h : s.cmdData.length = s.frameSize)
    (hd : decodeFrame s.frameSize s.cmdData = .error e) : exec .frmDec s = .next (s.raise e) := by
  simp [exec, execFrmDec, h, hd]

/-- Settles O13: the CRC size is selected before the length is compared. -/
theorem frmEncErrors : Obligations.FrmEncErrors := by
  refine fun s => ⟨fun hm hcrc => ?_, fun hm hcrc hlong => ?_, fun hbad => frmEnc_of_not_isMessage fun hm => ?_⟩
  · exact frmEnc_of_encodeFrame_error hm (encodeFrame_of_crc16MaxLength_lt hcrc)
  · exact frmEnc_of_encodeFrame_error hm (encodeFrame_of_frameSize_lt hcrc hlong)
  · obtain ⟨hmin, hlen⟩ := isMessage_eq_true_iff.1 hm
    exact hbad.elim (not_lt.2 hmin) (· hlen)

/-- Settles O14: the answer is that of `validate`, which tests the CRC before the length. -/
theorem frmValChecks : Obligations.FrmValChecks := by
  refine fun s => ⟨fun hsize => ?_, fun hsize => if_neg hsize⟩
  rw [frmVal_of_length hsize]
  refine ⟨fun hcrc => ?_, fun hcrc => ⟨fun hout => ?_, fun hmin hmax => ?_⟩⟩
  · rw [validateFrame_eq_crcMismatch_iff.2 hcrc]
    rfl
  · rw [validateFrame_of_crc_eq hcrc, lengthOk_eq_false_iff.2 hout]
    rfl
  · rw [validateFrame_of_crc_eq hcrc, lengthOk_iff.2 ⟨hmin, hmax⟩]
    rfl

/-- Settles O15: `decode` looks at the length field alone. -/
theorem frmDecAnswers : Obligations.FrmDecAnswers := by
  refine fun s => ⟨fun hsize => ⟨fun hout => ?_, fun hmin hmax => ?_⟩, fun hsize => if_neg hsize⟩
  · exact frmDec_of_decodeFrame_error hsize (decodeFrame_of_not_lengthOk (lengthOk_eq_false_iff.2 hout))
  · exact frmDec_of_decodeFrame_ok hsize (decodeFrame_of_lengthOk (lengthOk_iff.2 ⟨hmin, hmax⟩))

/-! The round trip (R171): the frame of a message has its length field and passes the CRC comparison. -/

theorem byteAt_append_left {l : List Byte} {k : Nat} (h : k < l.length) (r : List Byte) :
    byteAt (l ++ r) k = byteAt l k := List.getD_append _ _ _ _ h

theorem lengthField_append (h : 3 ≤ m.length) (r : List Byte) : lengthField (m ++ r) = lengthField m := by
  rw [lengthField, be16, byteAt_append_left (by omega), byteAt_append_left (by omega), lengthField, be16]

theorem lengthField_frameOf (hm : isMessage m = true) : lengthField (frameOf c n m) = m.length := by
  obtain ⟨hmin, hlen⟩ := isMessage_eq_true_iff.1 hm
  rw [frameOf, frameBody, List.append_assoc, lengthField_append (by omega), hlen]

theorem lengthOk_frameOf (hm : isMessage m = true) (hfit : m.length ≤ n - 2) : lengthOk n (frameOf c n m) = true := by
  rw [lengthOk_iff, lengthField_frameOf hm]
  exact ⟨(isMessage_eq_true_iff.1 hm).1, hfit⟩

theorem decodeFrame_frameOf (hm : isMessage m = true) (hfit : m.length ≤ n - 2) :
    decodeFrame n (frameOf c n m) = .ok m := by
  rw [decodeFrame_of_lengthOk (lengthOk_frameOf hm hfit), lengthField_frameOf hm, take_length_frameOf]

theorem validateFrame_frameOf (hm : isMessage m = true) (hfit : m.length ≤ n - 2) :
    validateFrame c n (frameOf c n m) = .ok := by
  obtain ⟨hmin, -⟩ := isMessage_eq_true_iff.1 hm
  have hmatch : validateFrame c n (frameOf c n m) ≠ .crcMismatch := fun hbad =>
    (validateFrame_append_trailer (by omega) (length_frameBody hfit) _).1 hbad rfl
  rw [ne_eq, validateFrame_eq_crcMismatch_iff, not_not] at hmatch
  rw [validateFrame_of_crc_eq hmatch, lengthOk_frameOf hm hfit, if_pos rfl]

/-- Settles O16: `FRM.ENC` answers `frameOf` of the message, of `frame_size` bytes, which `decode` inverts and `validate`
accepts. -/
theorem codecRoundTrip : Obligations.CodecRoundTrip := by
  intro s hm hfit hcrc hmax
  obtain ⟨hmin, hlen⟩ := isMessage_eq_true_iff.1 hm
  have hsize : (frameOf s.cfg s.frameSize s.cmdData).length = s.frameSize := length_frameOf hfit (by omega)
  refine ⟨_, _, frmEnc_of_encodeFrame hm (encodeFrame_of_le hlen hfit hcrc) (hsize.trans_le hmax), rfl, rfl,
    frmDec_of_decodeFrame_ok hsize (decodeFrame_frameOf hm hfit), ?_⟩
  refine (frmVal_of_length hsize).trans ?_
  exact congrArg (fun st => Host.Outcome.next (State.answer _ st [])) (validateFrame_frameOf hm hfit)

/-! The CRC accumulator (R161): the operations of the codec and the steps of the transceiver, stops included for these,
commute with a change of it. An operation that does leaves the value it finds: that is the change to the same value. -/

section accumulator

variable {v : Word} {b : Bool} {env : Env}

/-- `s` with another CRC accumulator, and another mark of its having been written. -/
def withCrc (v : Word) (b : Bool) (s : State) : State := { s with crcAcc := v, crcWritten := b }

@[simp] theorem withCrc_cfg : (withCrc v b s).cfg = s.cfg := rfl
@[simp] theorem withCrc_xcvState : (withCrc v b s).xcvState = s.xcvState := rfl
@[simp] theorem withCrc_xcvOperand : (withCrc v b s).xcvOperand = s.xcvOperand := rfl
@[simp] theorem withCrc_xcvOuter : (withCrc v b s).xcvOuter = s.xcvOuter := rfl
@[simp] theorem withCrc_xcvReturn : (withCrc v b s).xcvReturn = s.xcvReturn := rfl
@[simp] theorem withCrc_vars : (withCrc v b s).vars = s.vars := rfl
@[simp] theorem withCrc_frameSize : (withCrc v b s).frameSize = s.frameSize := rfl
@[simp] theorem withCrc_crcSize : (withCrc v b s).crcSize = s.crcSize := rfl
@[simp] theorem withCrc_fetch : (withCrc v b s).fetch = s.fetch := rfl

/-- What answers the same under any accumulator leaves the one it finds. -/
theorem crcAcc_of_eq_withCrc (h : t = withCrc s.crcAcc s.crcWritten t) : t.crcAcc = s.crcAcc := by
  rw [h]
  rfl

/-! Sequencing. -/

/-- A computation that a change `g` does not touch, then one that commutes with it. -/
theorem bind_of_same {α β : Type} {x x' : Res α} {k k' : α → Res β} {g : β → β} (hx : x' = x)
    (hk : ∀ a, k' a = g <$> k a) : x' >>= k' = g <$> (x >>= k) := by
  rw [hx, map_bind, funext hk]

/-- Two computations that commute with a change of what they answer. -/
theorem bind_of_map {α β : Type} {x x' : Res α} {k k' : α → Res β} {h : α → α} {g : β → β} (hx : x' = h <$> x)
    (hk : ∀ a, k' (h a) = g <$> k a) : x' >>= k' = g <$> (x >>= k) := by
  rw [hx, bind_map_left, map_bind, funext hk]

/-! Buffers, the Transport, the ready latch, the end of a transaction. -/

theorem memRead_withCrc {d : BufName} {off : Nat} : memRead (withCrc v b s) d off n = memRead s d off n := by
  cases d <;> rfl

theorem setBuf_withCrc (d : BufName) (x : Memory) : (withCrc v b s).setBuf d x = withCrc v b (s.setBuf d x) := by
  cases d <;> rfl

theorem buf_withCrc (d : BufName) : (withCrc v b s).buf d = s.buf d := by cases d <;> rfl

theorem memWrite_withCrc {d : BufName} {off : Nat} :
    memWrite (withCrc v b s) d off m = withCrc v b <$> memWrite s d off m := by
  unfold memWrite
  rw [withCrc_cfg, buf_withCrc, setBuf_withCrc]
  split <;> rfl

theorem storeFrame_withCrc : storeFrame (withCrc v b s) f = withCrc v b <$> storeFrame s f := by
  unfold storeFrame
  rw [memWrite_withCrc]
  cases memWrite s .tx 0 f <;> rfl

theorem exchange_withCrc {dst : BufName} :
    exchange (withCrc v b s) env dst = Prod.map (withCrc v b) id <$> exchange s env dst :=
  bind_of_same memRead_withCrc fun tx =>
    (congrArg (· >>= _) (memWrite_withCrc (s := { s with sent := tx :: s.sent }))).trans <| by
      rw [bind_map_left, map_bind]
      rfl

theorem afterExchange_withCrc {next : State → State} (hn : ∀ u, next (withCrc v b u) = withCrc v b (next u))
    (r : State × Bool) : afterExchange next (r.map (withCrc v b) id) = withCrc v b (afterExchange next r) := by
  obtain ⟨u, fault⟩ := r
  cases fault with
  | false => exact hn u
  | true => rfl

theorem exchange_afterExchange_withCrc {dst : BufName} {next : State → State}
    (hn : ∀ u, next (withCrc v b u) = withCrc v b (next u)) :
    (exchange (withCrc v b s) env dst >>= fun r => pure (afterExchange next r)) =
      withCrc v b <$> (exchange s env dst >>= fun r => pure (afterExchange next r)) :=
  bind_of_map exchange_withCrc fun r => congrArg Except.ok (afterExchange_withCrc hn r)

theorem readyWait_withCrc (w : Option Nat) (a : ReadyAnswer) :
    readyWait (withCrc v b s) w a = (readyWait s w a).map (withCrc v b) id := by
  unfold readyWait
  rw [apply_ite (Prod.map (withCrc v b) id)]
  rfl

theorem primaryMessage_withCrc : primaryMessage (withCrc v b s) = primaryMessage s := rfl

theorem returnXchg_withCrc (r : Reply) : (withCrc v b s).returnXchg r = withCrc v b (s.returnXchg r) := by
  rw [returnXchg_eq, returnXchg_eq]
  rfl

/-! The fetcher. -/

theorem fetchTake_withCrc (st : FetchState) (x : DescField) (rest : List DescField) (r : Reply) :
    fetchTake (withCrc v b s) st x rest r = (fetchTake s st x rest r).map (withCrc v b) id := by
  unfold fetchTake
  dsimp only [withCrc_cfg]
  split
  · split <;> rfl
  · rfl

theorem fetchIssue_withCrc (st : FetchState) (x : DescField) :
    fetchIssue (withCrc v b s) st x = Prod.map (withCrc v b) id <$> fetchIssue s st x :=
  bind_of_same rfl fun _ => rfl

theorem fetchStep_withCrc : fetchStep (withCrc v b s) env = Prod.map (withCrc v b) id <$> fetchStep s env := by
  have hfree : (withCrc v b s).sequencerFree = s.sequencerFree := rfl
  unfold fetchStep
  rw [withCrc_fetch, withCrc_xcvReturn, hfree]
  split
  · rfl
  · split
    · rfl
    · split
      · split
        · rw [fetchTake_withCrc]; rfl
        · rfl
      · split
        · exact fetchIssue_withCrc _ _
        · rfl

theorem endRefresh_withCrc : endRefresh (withCrc v b s) = withCrc v b (endRefresh s) := by
  unfold endRefresh
  rw [withCrc_xcvOuter]
  split <;> rfl

/-! The states of the sequencer (R221). -/

theorem xcvS1Check_withCrc : xcvS1Check (withCrc v b s) = withCrc v b <$> xcvS1Check s := by
  unfold xcvS1Check
  rw [withCrc_cfg, withCrc_crcSize, withCrc_xcvOperand]
  split
  · rfl
  · exact bind_of_map memWrite_withCrc fun _ => rfl

theorem xcvS2Send_withCrc : xcvS2Send (withCrc v b s) env = withCrc v b <$> xcvS2Send s env := by
  refine bind_of_same memRead_withCrc fun m => ?_
  rw [withCrc_cfg, withCrc_frameSize]
  split
  · rfl
  · exact bind_of_map storeFrame_withCrc fun u =>
      exchange_afterExchange_withCrc (s := readyClear u) fun _ => rfl

theorem xcvS3aWait_withCrc : xcvS3aWait (withCrc v b s) env = withCrc v b (xcvS3aWait s env) := by
  unfold xcvS3aWait
  rw [withCrc_vars, readyWait_withCrc]
  obtain ⟨u, answer⟩ := readyWait s (some s.vars.timeoutMs) env.ready
  cases answer <;> rfl

theorem xcvS3bPoll_withCrc : xcvS3bPoll (withCrc v b s) env = withCrc v b <$> xcvS3bPoll s env := by
  unfold xcvS3bPoll
  rw [withCrc_cfg, withCrc_vars, withCrc_frameSize]
  split
  · exact bind_of_same memRead_withCrc fun _ => bind_of_map memWrite_withCrc fun _ => rfl
  · split
    · rfl
    · exact bind_of_map storeFrame_withCrc fun _ => exchange_afterExchange_withCrc fun _ => rfl

theorem xcvS3bSidewait_withCrc : xcvS3bSidewait (withCrc v b s) env = withCrc v b (xcvS3bSidewait s env) := by
  unfold xcvS3bSidewait
  rw [withCrc_cfg, readyWait_withCrc]
  obtain ⟨u, answer⟩ := readyWait s (some s.cfg.tSideMs) env.ready
  cases answer <;> rfl

theorem xcvS3bSide_withCrc : xcvS3bSide (withCrc v b s) env = withCrc v b <$> xcvS3bSide s env := by
  refine bind_of_map exchange_withCrc fun r => ?_
  obtain ⟨u, fault⟩ := r
  cases fault with
  | false => exact bind_of_same memRead_withCrc fun _ => rfl
  | true => rfl

theorem xcvS3cValidate_withCrc : xcvS3cValidate (withCrc v b s) = withCrc v b <$> xcvS3cValidate s := by
  refine bind_of_same memRead_withCrc fun x => ?_
  rw [withCrc_cfg, withCrc_frameSize, withCrc_vars]
  split
  · rfl
  · split <;> rfl

theorem xcvS3dAck_withCrc : xcvS3dAck (withCrc v b s) = withCrc v b <$> xcvS3dAck s := by
  unfold xcvS3dAck
  rw [withCrc_cfg, withCrc_vars]
  split
  · rfl
  · refine bind_of_same memRead_withCrc fun h => ?_
    split
    · split <;> rfl
    · rfl

theorem xcvS3eType_withCrc : xcvS3eType (withCrc v b s) = withCrc v b <$> xcvS3eType s := by
  refine bind_of_same primaryMessage_withCrc fun r => ?_
  rw [withCrc_cfg]
  split
  · split <;> rfl
  · rfl

theorem xcvS3fWaitdir_withCrc : xcvS3fWaitdir (withCrc v b s) = withCrc v b <$> xcvS3fWaitdir s := by
  refine bind_of_same primaryMessage_withCrc fun r => ?_
  rw [withCrc_cfg]
  split <;> rfl

theorem xcvS3gApply_withCrc : xcvS3gApply (withCrc v b s) = withCrc v b <$> xcvS3gApply s := by
  refine bind_of_same primaryMessage_withCrc fun r => ?_
  have hconf : confirmedDesc (withCrc v b s) r = confirmedDesc s r := rfl
  rw [hconf, withCrc_xcvOuter]
  split <;> rfl

theorem xcvS3gRefresh_withCrc : xcvS3gRefresh (withCrc v b s) env = withCrc v b <$> xcvS3gRefresh s env := by
  refine bind_of_map fetchStep_withCrc fun r => ?_
  obtain ⟨u, fetchEnd⟩ := r
  cases fetchEnd with
  | running => rfl
  | ok | failed =>
    dsimp only [Prod.map]
    rw [endRefresh_withCrc]
    rfl

theorem xcvRetx_withCrc : xcvRetx (withCrc v b s) env = withCrc v b <$> xcvRetx s env := by
  unfold xcvRetx
  dsimp only [withCrc_cfg]
  split
  · exact exchange_afterExchange_withCrc (s := { s with vars := { s.vars with retxUsed := true, retxPass := true } })
      fun _ => rfl
  · rfl

theorem xcvDone_withCrc : xcvDone (withCrc v b s) = withCrc v b <$> xcvDone s :=
  bind_of_same primaryMessage_withCrc fun m => bind_of_map memWrite_withCrc fun u =>
    congrArg Except.ok (returnXchg_withCrc (s := { u with respLen := m.length }) _)

theorem xcvFail_withCrc : xcvFail (withCrc v b s) = withCrc v b (xcvFail s) :=
  returnXchg_withCrc (s := { s with transmissionErrors := bump s.cfg s.transmissionErrors }) _

theorem xcvStep_withCrc : xcvStep (withCrc v b s) env = withCrc v b <$> xcvStep s env := by
  unfold xcvStep
  rw [withCrc_xcvState]
  cases s.xcvState with
  | idle => rfl
  | s1Check => exact xcvS1Check_withCrc
  | s2Send => exact xcvS2Send_withCrc
  | s3aWait => exact congrArg Except.ok xcvS3aWait_withCrc
  | s3bPoll => exact xcvS3bPoll_withCrc
  | s3bSidewait => exact congrArg Except.ok xcvS3bSidewait_withCrc
  | s3bSide => exact xcvS3bSide_withCrc
  | s3cValidate => exact xcvS3cValidate_withCrc
  | s3dAck => exact xcvS3dAck_withCrc
  | s3eType => exact xcvS3eType_withCrc
  | s3fWaitdir => exact xcvS3fWaitdir_withCrc
  | s3gApply => exact xcvS3gApply_withCrc
  | s3gRefresh => exact xcvS3gRefresh_withCrc
  | retx => exact xcvRetx_withCrc
  | done => exact xcvDone_withCrc
  | fail => exact congrArg Except.ok xcvFail_withCrc

/-! The operations of the codec: everything that each can answer, and the same under another accumulator. -/

theorem frmEnc_next (h : exec .frmEnc s = .next t) : isMessage s.cmdData = true ∧
    ((∃ e, encodeFrame s.cfg s.frameSize s.cmdData = .error e ∧ t = s.raise e) ∨
      ∃ f, encodeFrame s.cfg s.frameSize s.cmdData = .ok f ∧ f.length ≤ s.cfg.maximumFrameSize ∧
        t = { s with txBuf := s.txBuf.write 0 f, crcSize := 2 }.answer .ok f) := by
  simp only [exec, execFrmEnc] at h
  split at h
  · next hm =>
    refine ⟨hm, ?_⟩
    split at h
    · next e he =>
      cases h
      exact .inl ⟨e, he, rfl⟩
    · next f hf =>
      obtain ⟨u, hu, rfl⟩ := map_ok.1 (outcome_next.1 h)
      obtain ⟨rfl, hcap⟩ := storeFrame_ok hu
      exact .inr ⟨f, hf, hcap, rfl⟩
  · cases h

theorem frmVal_next (h : exec .frmVal s = .next t) : s.cmdData.length = s.frameSize ∧
    t = s.answer (validateFrame s.cfg s.frameSize s.cmdData) [] := by
  simp only [exec, execFrmVal] at h
  split at h
  · next hsize =>
    cases h
    exact ⟨hsize, rfl⟩
  · cases h

theorem frmDec_next (h : exec .frmDec s = .next t) : s.cmdData.length = s.frameSize ∧
    ((∃ e, decodeFrame s.frameSize s.cmdData = .error e ∧ t = s.raise e) ∨
      ∃ m, decodeFrame s.frameSize s.cmdData = .ok m ∧ t = s.answer .ok m) := by
  simp only [exec, execFrmDec] at h
  split at h
  · next hsize =>
    refine ⟨hsize, ?_⟩
    split at h
    · next e he =>
      cases h
      exact .inl ⟨e, he, rfl⟩
    · next m hm =>
      cases h
      exact .inr ⟨m, hm, rfl⟩
  · cases h

theorem frmEnc_withCrc (h : exec .frmEnc s = .next t) : exec .frmEnc (withCrc v b s) = .next (withCrc v b t) := by
  obtain ⟨hm, ⟨e, he, rfl⟩ | ⟨f, hf, hcap, rfl⟩⟩ := frmEnc_next h
  · exact frmEnc_of_encodeFrame_error (s := withCrc v b s) hm he
  · exact frmEnc_of_encodeFrame (s := withCrc v b s) hm hf hcap

theorem frmVal_withCrc (h : exec .frmVal s = .next t) : exec .frmVal (withCrc v b s) = .next (withCrc v b t) := by
  obtain ⟨hsize, rfl⟩ := frmVal_next h
  exact frmVal_of_length (s := withCrc v b s) hsize

theorem frmDec_withCrc (h : exec .frmDec s = .next t) : exec .frmDec (withCrc v b s) = .next (withCrc v b t) := by
  obtain ⟨hsize, ⟨e, he, rfl⟩ | ⟨m, hm, rfl⟩⟩ := frmDec_next h
  · exact frmDec_of_decodeFrame_error (s := withCrc v b s) hsize he
  · exact frmDec_of_decodeFrame_ok (s := withCrc v b s) hsize hm

theorem frm_withCrc {i : Instr} (hi : i = .frmEnc ∨ i = .frmVal ∨ i = .frmDec) (h : exec i s = .next t) :
    exec i (withCrc v b s) = .next (withCrc v b t) := by
  obtain rfl | rfl | rfl := hi
  · exact frmEnc_withCrc h
  · exact frmVal_withCrc h
  · exact frmDec_withCrc h

end accumulator

/-- Settles O17: each operation and step commutes with a change of the accumulator; that it leaves the one it finds is the
case of no change. -/
theorem codecIgnoresCrcAcc : Obligations.CodecIgnoresCrcAcc := by
  refine fun s v b => ⟨fun i t hi h => ⟨?_, frm_withCrc hi h⟩, fun e t h => ⟨?_, ?_⟩⟩
  · exact crcAcc_of_eq_withCrc (Host.Outcome.next.inj (h.symm.trans (frm_withCrc hi h)))
  · exact (xcvStep_outside h).crcAcc
  · exact xcvStep_withCrc.trans (congrArg (withCrc v b <$> ·) h)

end Sys2Proof.Laws

/-! PROOFS. The transceiver (42_transceiver.md), one step at a time: what a step at each state of the sequencer leaves
(R201 to R220), as an equation, whatever inputs are still to come. -/

namespace Sys2Proof.Laws

open Sys2Proof.Machine

variable {c : Config} {s t : State} {e : Env} {n : Nat} {m f : List Byte} {mem : Memory}

/-! A step of the slot (R84): the input is used up, and what it does does not look at the inputs behind it. -/

theorem step_of_xcv (hl : live s) (rest : List Input) :
    step { s with inputs := .xcv e :: rest } = outcome (xcvStep { s with inputs := rest } e) := by
  obtain ⟨hd, hw⟩ := hl
  have hd' : ¬ s.discarded = true := by simp [hd]
  have hw' : ¬ s.cfg.wf = false := by simp [hw]
  exact (if_neg hd').trans (if_neg hw')

theorem runs_xcv (hl : live s) (h : ∀ rest, xcvStep { s with inputs := rest } e = .ok { t with inputs := rest }) :
    Runs s (.xcv e) t := fun rest => (step_of_xcv hl rest).trans (congrArg outcome (h rest))

theorem runs_readyEdge (hl : live s) : Runs s .readyEdge { s with readyLatch := true } := fun rest => by
  obtain ⟨hd, hw⟩ := hl
  simp [step, hd, hw, applyInput, outcome]

/-- A step that ends with an exchange: what it leaves depends on the Transport's answer (R204). -/
theorem runs_afterExchange {next : State → State} (hl : live s)
    (h : ∀ rest, xcvStep { s with inputs := rest } e =
      .ok (afterExchange next ({ t with inputs := rest }, e.transportFault)))
    (hnext : ∀ rest, next { t with inputs := rest } = { next t with inputs := rest }) :
    Runs s (.xcv e) (afterExchange next (t, e.transportFault)) :=
  runs_xcv hl fun rest => (h rest).trans <| congrArg Except.ok <| by
    cases e.transportFault with
    | false => exact hnext rest
    | true => rfl

/-! Sequencing: a computation that answers hands its answer on. -/

theorem bind_of_ok {α β : Type} {x : Res α} {a : α} (h : x = .ok a) (k : α → Res β) : x >>= k = k a := by
  rw [h]
  rfl

/-! What `Config` well-formedness gives the transceiver (R6). -/

theorem maximumFrameSize_of_wf (hc : c.wf = true) : 64 ≤ c.maximumFrameSize := by
  simp only [Config.wf, Config.sizesOk, Bool.and_eq_true, decide_eq_true_eq] at hc
  tauto

theorem frameSizeMin_of_wf (hc : c.wf = true) : 64 ≤ c.frameSizeMin := by
  simp only [Config.wf, Config.sizesOk, Bool.and_eq_true, decide_eq_true_eq] at hc
  tauto

theorem pollMsg_of_wf (hc : c.wf = true) : isMessage c.pollMsg = true ∧ lengthField c.pollMsg ≤ 62 := by
  simp only [Config.wf, Config.codesOk, fixedMessageOk, Bool.and_eq_true, decide_eq_true_eq] at hc
  tauto

theorem mtResponse_ne_mtAck (hc : c.wf = true) : c.mtResponse ≠ c.mtAck := by
  simp only [Config.wf, Config.codesOk, pairwiseDistinct, Bool.and_eq_true, decide_eq_true_eq] at hc
  obtain ⟨⟨⟨-, ⟨⟨hcodes, -⟩, -⟩, -⟩, -⟩, -⟩ := hc
  simp at hcodes
  tauto

theorem subCodes_of_wf (hc : c.wf = true) :
    [c.subMsgtype, c.subClassid, c.subFramecrc, c.subClass, c.subDatalen, c.subMode].Nodup := by
  simp only [Config.wf, Config.directivesOk, pairwiseDistinct, Bool.and_eq_true, decide_eq_true_eq] at hc
  tauto

/-! Buffers and frames. -/

/-- A write from the start of a buffer, byte by byte. -/
theorem get_write_zero (h : f.length = n) (a : Nat) : (mem.write 0 f).get a = if a < n then f[a]? else mem.get a := by
  simp [get_write, h]

theorem read_write_zero (h : f.length = n) : (mem.write 0 f).read 0 n = some f := h ▸ read_write mem 0 f

theorem length_of_read (h : mem.read 0 n = some f) : f.length = n := ((read_eq_some_iff ..).1 h).1

/-- The frame of a message has `frame_size` bytes (R100). -/
theorem length_of_encodeFrame (hm : isMessage m = true) (h : encodeFrame c n m = .ok f) : f.length = n := by
  obtain ⟨hmin, hlen⟩ := isMessage_eq_true_iff.1 hm
  obtain ⟨-, hfit, rfl⟩ := encodeFrame_ok h
  exact length_frameOf (by omega) (by omega)

/-- The inputs to come are in no buffer. -/
theorem buf_inputs (b : BufName) (rest : List Input) : ({ s with inputs := rest } : State).buf b = s.buf b := by
  cases b <;> rfl

/-! The Transport (R204, R430). -/

/-- What an exchange of the frame `f` leaves, its bytes received in `dst`. -/
def exchanged (s : State) (e : Env) (dst : BufName) (f : List Byte) : State :=
  { s with sent := f :: s.sent }.setBuf dst ((s.buf dst).write 0 (fit s.frameSize e.rx))

theorem exchange_of_read {dst : BufName} (hdst : capacity s.cfg dst = s.cfg.maximumFrameSize)
    (hmax : s.frameSize ≤ s.cfg.maximumFrameSize) (hread : s.txBuf.read 0 s.frameSize = some f) :
    exchange s e dst = .ok (exchanged s e dst f, e.transportFault) := by
  have htx : memRead s .tx 0 s.frameSize = .ok f := memRead_of_read hread (by simpa [capacity] using hmax)
  have hrx : memWrite { s with sent := f :: s.sent } dst 0 (fit s.frameSize e.rx) = .ok (exchanged s e dst f) := by
    rw [memWrite_of_le (by simpa [fit_length, hdst] using hmax)]
    cases dst <;> rfl
  simp [exchange, htx, hrx, bind, Except.bind, pure, Except.pure]

theorem afterExchange_of_fault {next : State → State} (h : e.transportFault = true) :
    afterExchange next (t, e.transportFault) = t.toFail .transportFault := by
  rw [h]
  rfl

theorem afterExchange_of_answer {next : State → State} (h : e.transportFault = false) :
    afterExchange next (t, e.transportFault) = next t := by
  rw [h]
  rfl

/-- A failed transaction keeps the buffers as they are. -/
theorem byte_afterExchange {next : State → State} {b : BufName} (hnext : (next t).buf b = t.buf b) (a : Nat) :
    (afterExchange next (t, e.transportFault)).byte b a = (t.buf b).get a := by
  cases h : e.transportFault with
  | false => exact congrArg (Memory.get · a) hnext
  | true => cases b <;> rfl

/-! The ready latch (R431, R481). -/

theorem readyWait_of_set (h : s.readyLatch = true) (w : Option Nat) (a : ReadyAnswer) :
    readyWait s w a = ({ s with readyLatch := false }, .ready) := if_pos h

theorem readyWait_of_clear (h : s.readyLatch = false) (w : Option Nat) (a : ReadyAnswer) :
    readyWait s w a = (s, clearLatchAnswer w a) := if_neg (by simp [h])

theorem clearLatchAnswer_eq_interrupted {w : Option Nat} {a : ReadyAnswer} :
    clearLatchAnswer w a = .interrupted ↔ a = .interrupted := by
  cases a with
  | ready => by_cases h : w = some 0 <;> simp [clearLatchAnswer, h]
  | timeout => simp [clearLatchAnswer]
  | interrupted => simp [clearLatchAnswer]
  | edgeAfter d =>
    cases w with
    | none => simp [clearLatchAnswer]
    | some ms => by_cases h : ms ≠ 0 ∧ d ≤ ms <;> simp [clearLatchAnswer, h]

/-! Step 1 (R201). -/

theorem xcvStep_s1Check_of_lt (hx : s.xcvState = .s1Check)
    (h : s.cfg.maximumFrameSize - s.crcSize < be16 s.xcvOperand 1) :
    xcvStep s e = .ok (s.toFail .oversizedRequest) := by
  simp only [xcvStep, hx]
  exact if_pos h

theorem xcvStep_s1Check_of_le (hx : s.xcvState = .s1Check)
    (h : be16 s.xcvOperand 1 ≤ s.cfg.maximumFrameSize - s.crcSize)
    (hlen : s.xcvOperand.length ≤ s.cfg.maximumFrameSize - 2) :
    xcvStep s e = .ok { s with
      reqMsg := s.reqMsg.write 0 s.xcvOperand
      reqLen := s.xcvOperand.length
      vars := latchDirective s s.xcvOperand
      xcvState := .s2Send } := by
  have hw := memWrite_of_le (s := s) (b := .req) (off := 0) (v := s.xcvOperand) (by simpa [capacity] using hlen)
  simp only [xcvStep, hx, xcvS1Check, lengthField, if_neg (not_lt.2 h), hw]
  rfl

/-! Step 2 (R202 to R205). -/

theorem memRead_req (hread : s.reqMsg.read 0 s.reqLen = some m) (hlen : s.reqLen ≤ s.cfg.maximumFrameSize - 2) :
    memRead s .req 0 s.reqLen = .ok m := memRead_of_read hread (by simpa [capacity] using hlen)

theorem xcvStep_s2Send_of_error {st : Status} (hx : s.xcvState = .s2Send) (hread : s.reqMsg.read 0 s.reqLen = some m)
    (hlen : s.reqLen ≤ s.cfg.maximumFrameSize - 2) (henc : encodeFrame s.cfg s.frameSize m = .error st) :
    xcvStep s e = .ok (s.toFail st) := by
  simp only [xcvStep, hx, xcvS2Send, memRead_req hread hlen, bind, Except.bind, henc]
  rfl

theorem xcvStep_s2Send_of_ok (hx : s.xcvState = .s2Send) (hread : s.reqMsg.read 0 s.reqLen = some m)
    (hlen : s.reqLen ≤ s.cfg.maximumFrameSize - 2) (hmax : s.frameSize ≤ s.cfg.maximumFrameSize)
    (henc : encodeFrame s.cfg s.frameSize m = .ok f) (hf : f.length = s.frameSize) :
    xcvStep s e = .ok (afterExchange (fun u => { u with vars := freshVars u.cfg u.vars, xcvState := .s3aWait })
      (exchanged { s with txBuf := s.txBuf.write 0 f, crcSize := 2, readyLatch := false } e .rxScratch f,
        e.transportFault)) := by
  have hex := exchange_of_read (s := { s with txBuf := s.txBuf.write 0 f, crcSize := 2, readyLatch := false }) (e := e)
    (dst := .rxScratch) rfl hmax (read_write_zero hf)
  have hstate : xcvStep s e = xcvS2Send s e := by simp only [xcvStep, hx]
  rw [hstate, xcvS2Send, bind_of_ok (memRead_req hread hlen), henc]
  exact (bind_of_ok (storeFrame_of_le (hf.trans_le hmax)) _).trans (bind_of_ok hex _)

/-! The ready waits of steps 3a and 3b (R206, R208). -/

theorem xcvStep_s3aWait_of_set (hx : s.xcvState = .s3aWait) (hset : s.readyLatch = true) :
    xcvStep s e = .ok { s with readyLatch := false, xcvState := .s3bPoll } := by
  simp only [xcvStep, hx, xcvS3aWait, readyWait_of_set hset]
  rfl

theorem xcvStep_s3aWait_of_ready (hx : s.xcvState = .s3aWait) (hclear : s.readyLatch = false)
    (ha : clearLatchAnswer (some s.vars.timeoutMs) e.ready = .ready) : xcvStep s e = .ok (s.goto .s3bPoll) := by
  simp only [xcvStep, hx, xcvS3aWait, readyWait_of_clear hclear, ha]

theorem xcvStep_s3aWait_of_timeout (hx : s.xcvState = .s3aWait) (hclear : s.readyLatch = false)
    (ha : clearLatchAnswer (some s.vars.timeoutMs) e.ready = .timeout) : xcvStep s e = .ok (s.toFail .timeout) := by
  simp only [xcvStep, hx, xcvS3aWait, readyWait_of_clear hclear, ha]

theorem xcvStep_s3aWait_of_interrupted (hx : s.xcvState = .s3aWait) (hclear : s.readyLatch = false)
    (ha : e.ready = .interrupted) : xcvStep s e = .ok (s.toFail .interrupted) := by
  simp only [xcvStep, hx, xcvS3aWait, readyWait_of_clear hclear, clearLatchAnswer_eq_interrupted.2 ha]

theorem xcvStep_s3bSidewait_of_set (hx : s.xcvState = .s3bSidewait) (hset : s.readyLatch = true) :
    xcvStep s e = .ok { s with readyLatch := false, xcvState := .s3bSide } := by
  simp only [xcvStep, hx, xcvS3bSidewait, readyWait_of_set hset]
  rfl

/-- The brief wait goes on whether the edge comes or not (R208). -/
theorem xcvStep_s3bSidewait_of_ne (hx : s.xcvState = .s3bSidewait) (hclear : s.readyLatch = false)
    (ha : e.ready ≠ .interrupted) : xcvStep s e = .ok (s.goto .s3bSide) := by
  simp only [xcvStep, hx, xcvS3bSidewait, readyWait_of_clear hclear]
  cases h : clearLatchAnswer (some s.cfg.tSideMs) e.ready with
  | ready => rfl
  | timeout => rfl
  | interrupted => exact absurd (clearLatchAnswer_eq_interrupted.1 h) ha

theorem xcvStep_s3bSidewait_of_interrupted (hx : s.xcvState = .s3bSidewait) (hclear : s.readyLatch = false)
    (ha : e.ready = .interrupted) : xcvStep s e = .ok (s.toFail .interrupted) := by
  simp only [xcvStep, hx, xcvS3bSidewait, readyWait_of_clear hclear, clearLatchAnswer_eq_interrupted.2 ha]

/-! The poll of step 3b (R207, R210). -/

theorem xcvStep_s3bPoll_of_error {st : Status} (hx : s.xcvState = .s3bPoll) (hp : s.vars.retxPass = false)
    (henc : encodeFrame s.cfg s.frameSize s.cfg.pollMsg = .error st) : xcvStep s e = .ok (s.toFail st) := by
  simp [xcvStep, hx, xcvS3bPoll, hp, henc]

theorem xcvStep_s3bPoll_of_ok (hx : s.xcvState = .s3bPoll) (hp : s.vars.retxPass = false)
    (hmax : s.frameSize ≤ s.cfg.maximumFrameSize)
    (henc : encodeFrame s.cfg s.frameSize s.cfg.pollMsg = .ok f) (hf : f.length = s.frameSize) :
    xcvStep s e = .ok (afterExchange (fun u => u.goto .s3bSidewait)
      (exchanged { s with txBuf := s.txBuf.write 0 f, crcSize := 2 } e .rxPrimary f, e.transportFault)) := by
  have hex := exchange_of_read (s := { s with txBuf := s.txBuf.write 0 f, crcSize := 2 }) (e := e)
    (dst := .rxPrimary) rfl hmax (read_write_zero hf)
  have hstate : xcvStep s e = xcvS3bPoll s e := by simp only [xcvStep, hx]
  rw [hstate, xcvS3bPoll, if_neg (by simp [hp]), henc]
  exact (bind_of_ok (storeFrame_of_le (hf.trans_le hmax)) _).trans (bind_of_ok hex _)

theorem retxBuffer_newExchange (h : c.retxSource = .newExchange) : retxBuffer c = .rxRetx := by
  simp [retxBuffer, h]

theorem retxBuffer_sideBuffer (h : c.retxSource = .sideBuffer) : retxBuffer c = .rxSide := by
  simp [retxBuffer, h]

theorem capacity_retxBuffer (c : Config) : capacity c (retxBuffer c) = c.maximumFrameSize := by
  unfold retxBuffer
  split <;> rfl

/-- The retransmit pass takes the frame it has (R210). -/
theorem xcvStep_s3bPoll_of_retxPass (hx : s.xcvState = .s3bPoll) (hp : s.vars.retxPass = true)
    (hmax : s.frameSize ≤ s.cfg.maximumFrameSize) (hread : (s.buf (retxBuffer s.cfg)).read 0 s.frameSize = some f) :
    xcvStep s e = .ok { s with
      rxPrimary := s.rxPrimary.write 0 f
      vars := { s.vars with retxPass := false }
      xcvState := .s3cValidate } := by
  have hr : memRead s (retxBuffer s.cfg) 0 s.frameSize = .ok f :=
    memRead_of_read hread (by simpa [capacity_retxBuffer] using hmax)
  have hw := memWrite_of_le (s := s) (b := .rxPrimary) (off := 0) (v := f)
    (by simpa [capacity, length_of_read hread] using hmax)
  simp only [xcvStep, hx, xcvS3bPoll, hp, if_true, hr, hw, bind, Except.bind]
  rfl

/-! The side exchange of step 3b (R209). -/

theorem xcvStep_s3bSide (hx : s.xcvState = .s3bSide) (hmax : s.frameSize ≤ s.cfg.maximumFrameSize)
    (hread : s.txBuf.read 0 s.frameSize = some f) :
    xcvStep s e = .ok (afterExchange (fun u => { u with
        vars := { u.vars with deferredFail := u.vars.deferredFail || !check u.cfg u.frameSize (fit u.frameSize e.rx) }
        xcvState := .s3cValidate })
      (exchanged s e .rxSide f, e.transportFault)) := by
  have hex := exchange_of_read (e := e) (dst := .rxSide) rfl hmax hread
  have hr : memRead (exchanged s e .rxSide f) .rxSide 0 s.frameSize = .ok (fit s.frameSize e.rx) :=
    memRead_of_read (read_write_zero (fit_length _ _)) (by simpa [capacity, exchanged] using hmax)
  simp only [xcvStep, hx, xcvS3bSide, hex, bind, Except.bind]
  cases e.transportFault with
  | true => rfl
  | false =>
    have hsize : (exchanged s e .rxSide f).frameSize = s.frameSize := rfl
    simp only [Bool.false_eq_true, if_false, hsize, hr]
    rfl

/-! Validation and the Acknowledgement test, steps 3c and 3d (R211, R214). -/

theorem memRead_rxPrimary (hmax : s.frameSize ≤ s.cfg.maximumFrameSize)
    (hread : s.rxPrimary.read 0 s.frameSize = some f) : memRead s .rxPrimary 0 s.frameSize = .ok f :=
  memRead_of_read hread (by simpa [capacity] using hmax)

theorem check_eq_false (h : validateFrame c n f ≠ .ok) : check c n f = false := decide_eq_false h

theorem check_eq_true (h : validateFrame c n f = .ok) : check c n f = true := decide_eq_true h

theorem xcvStep_s3cValidate (hx : s.xcvState = .s3cValidate) (hmax : s.frameSize ≤ s.cfg.maximumFrameSize)
    (hread : s.rxPrimary.read 0 s.frameSize = some f) :
    xcvStep s e = .ok (if check s.cfg s.frameSize f then s.goto .s3dAck
      else if s.vars.retxUsed then s.toFail .corruptResponse else s.goto .retx) := by
  simp only [xcvStep, hx, xcvS3cValidate, memRead_rxPrimary hmax hread, bind, Except.bind, pure, Except.pure]
  split
  · rfl
  · split <;> rfl

theorem xcvStep_s3cValidate_of_valid (hx : s.xcvState = .s3cValidate) (hmax : s.frameSize ≤ s.cfg.maximumFrameSize)
    (hread : s.rxPrimary.read 0 s.frameSize = some f) (hok : validateFrame s.cfg s.frameSize f = .ok) :
    xcvStep s e = .ok (s.goto .s3dAck) := by
  rw [xcvStep_s3cValidate hx hmax hread, check_eq_true hok, if_pos rfl]

theorem xcvStep_s3cValidate_of_invalid_unused (hx : s.xcvState = .s3cValidate) (hmax : s.frameSize ≤ s.cfg.maximumFrameSize)
    (hread : s.rxPrimary.read 0 s.frameSize = some f) (hbad : validateFrame s.cfg s.frameSize f ≠ .ok)
    (hu : s.vars.retxUsed = false) : xcvStep s e = .ok (s.goto .retx) := by
  simp [xcvStep_s3cValidate hx hmax hread, check_eq_false hbad, hu]

theorem xcvStep_s3cValidate_of_invalid_used (hx : s.xcvState = .s3cValidate) (hmax : s.frameSize ≤ s.cfg.maximumFrameSize)
    (hread : s.rxPrimary.read 0 s.frameSize = some f) (hbad : validateFrame s.cfg s.frameSize f ≠ .ok)
    (hu : s.vars.retxUsed = true) : xcvStep s e = .ok (s.toFail .corruptResponse) := by
  simp [xcvStep_s3cValidate hx hmax hread, check_eq_false hbad, hu]

theorem xcvStep_s3dAck_of_deferred (hx : s.xcvState = .s3dAck) (hd : s.vars.deferredFail = true) :
    xcvStep s e = .ok (s.toFail .protocolError) := by
  simp [xcvStep, hx, xcvS3dAck, hd]

/-- The first byte of the primary frame is its message type. -/
theorem xcvStep_s3dAck {b : Byte} (hw : s.cfg.wf = true) (hx : s.xcvState = .s3dAck)
    (hd : s.vars.deferredFail = false) (hb : s.byte .rxPrimary 0 = some b) :
    xcvStep s e = .ok (if b = s.cfg.mtAck then
      if s.vars.retxUsed then s.toFail .protocolError else s.goto .retx else s.goto .s3eType) := by
  have hmax := maximumFrameSize_of_wf hw
  have hread : (s.buf .rxPrimary).read 0 1 = some [b] :=
    (read_eq_some_iff ..).2 ⟨rfl, fun i hi => by
      obtain rfl : i = 0 := by simpa using hi
      exact hb⟩
  have hr : memRead s .rxPrimary 0 1 = .ok [b] := memRead_of_read hread (by simp only [capacity]; omega)
  simp only [xcvStep, hx, xcvS3dAck, hd, Bool.false_eq_true, if_false, hr, bind, Except.bind, pure, Except.pure, byteAt,
    List.getD_cons_zero]
  split
  · split <;> rfl
  · rfl

theorem xcvStep_s3dAck_of_ack_unused {b : Byte} (hw : s.cfg.wf = true) (hx : s.xcvState = .s3dAck)
    (hd : s.vars.deferredFail = false) (hb : s.byte .rxPrimary 0 = some b) (hack : b = s.cfg.mtAck)
    (hu : s.vars.retxUsed = false) : xcvStep s e = .ok (s.goto .retx) := by
  simp [xcvStep_s3dAck hw hx hd hb, hack, hu]

theorem xcvStep_s3dAck_of_ack_used {b : Byte} (hw : s.cfg.wf = true) (hx : s.xcvState = .s3dAck)
    (hd : s.vars.deferredFail = false) (hb : s.byte .rxPrimary 0 = some b) (hack : b = s.cfg.mtAck)
    (hu : s.vars.retxUsed = true) : xcvStep s e = .ok (s.toFail .protocolError) := by
  simp [xcvStep_s3dAck hw hx hd hb, hack, hu]

theorem xcvStep_s3dAck_of_ne {b : Byte} (hw : s.cfg.wf = true) (hx : s.xcvState = .s3dAck)
    (hd : s.vars.deferredFail = false) (hb : s.byte .rxPrimary 0 = some b) (hack : b ≠ s.cfg.mtAck) :
    xcvStep s e = .ok (s.goto .s3eType) := by
  rw [xcvStep_s3dAck hw hx hd hb, if_neg hack]

/-! The response, steps 3e to 3g (R215 to R218). -/

theorem primaryMessage_of_primaryHolds (hw : s.cfg.wf = true) (hm : primaryHolds s m) : primaryMessage s = .ok m := by
  have hmax := maximumFrameSize_of_wf hw
  obtain ⟨hd, hhd, hmsg, hlen⟩ := hm
  have hmlen : m.length = lengthField hd := length_of_read hmsg
  have h1 : memRead s .rxPrimary 0 headerSize = .ok hd := memRead_of_read hhd (by simp only [capacity, headerSize]; omega)
  have h2 : memRead s .rxPrimary 0 (lengthField hd) = .ok m := memRead_of_read hmsg (by simp only [capacity]; omega)
  simp only [primaryMessage, h1, h2, bind, Except.bind]

theorem xcvStep_s3eType_of_ne (hw : s.cfg.wf = true) (hm : primaryHolds s m) (hx : s.xcvState = .s3eType)
    (ht : byteAt m 0 ≠ s.cfg.mtResponse) : xcvStep s e = .ok (s.toFail .unexpectedMessageType) := by
  simp only [xcvStep, hx, xcvS3eType, primaryMessage_of_primaryHolds hw hm, bind, Except.bind, if_neg ht]
  rfl

theorem xcvStep_s3eType_of_some {sub : TxnSub} (hw : s.cfg.wf = true) (hm : primaryHolds s m) (hx : s.xcvState = .s3eType)
    (ht : byteAt m 0 = s.cfg.mtResponse) (herr : txnError s.cfg m = some sub) :
    xcvStep s e = .ok (s.toFail (.transactionError sub)) := by
  simp only [xcvStep, hx, xcvS3eType, primaryMessage_of_primaryHolds hw hm, bind, Except.bind, if_pos ht, herr]
  rfl

theorem xcvStep_s3eType_of_none (hw : s.cfg.wf = true) (hm : primaryHolds s m) (hx : s.xcvState = .s3eType)
    (ht : byteAt m 0 = s.cfg.mtResponse) (herr : txnError s.cfg m = none) :
    xcvStep s e = .ok (s.goto .s3fWaitdir) := by
  simp only [xcvStep, hx, xcvS3eType, primaryMessage_of_primaryHolds hw hm, bind, Except.bind, if_pos ht, herr]
  rfl

theorem xcvStep_s3fWaitdir_of_some {us : Nat} (hw : s.cfg.wf = true) (hm : primaryHolds s m)
    (hx : s.xcvState = .s3fWaitdir) (hwait : waitDirective s.cfg m = some us) :
    xcvStep s e = .ok { s with vars := { s.vars with timeoutMs := us / 1000, wait := true }, xcvState := .s3aWait } := by
  simp only [xcvStep, hx, xcvS3fWaitdir, primaryMessage_of_primaryHolds hw hm, bind, Except.bind, hwait]
  rfl

theorem xcvStep_s3fWaitdir_of_none (hw : s.cfg.wf = true) (hm : primaryHolds s m) (hx : s.xcvState = .s3fWaitdir)
    (hwait : waitDirective s.cfg m = none) : xcvStep s e = .ok (s.goto .s3gApply) := by
  simp only [xcvStep, hx, xcvS3fWaitdir, primaryMessage_of_primaryHolds hw hm, bind, Except.bind, hwait]
  rfl

theorem xcvStep_s3gApply (hw : s.cfg.wf = true) (hm : primaryHolds s m) (hx : s.xcvState = .s3gApply) :
    xcvStep s e = .ok (if confirmedDesc s m && s.xcvOuter.isNone then beginRefresh (applyLinkParams s m)
      else { applyLinkParams s m with vars := { s.vars with wait := false }, xcvState := .done }) := by
  simp only [xcvStep, hx, xcvS3gApply, primaryMessage_of_primaryHolds hw hm, bind, Except.bind]
  split <;> rfl

/-! The retransmit (R213). -/

theorem xcvStep_retx_of_sideBuffer (hx : s.xcvState = .retx) (hsrc : s.cfg.retxSource = .sideBuffer) :
    xcvStep s e = .ok { s with
      vars := { s.vars with retxUsed := true, retxPass := true }
      xcvState := retxTarget s.cfg } := by
  simp only [xcvStep, hx, xcvRetx, hsrc]
  rfl

theorem xcvStep_retx_of_newExchange (hx : s.xcvState = .retx) (hsrc : s.cfg.retxSource = .newExchange)
    (hmax : s.frameSize ≤ s.cfg.maximumFrameSize) (hread : s.txBuf.read 0 s.frameSize = some f) :
    xcvStep s e = .ok (afterExchange (fun u => u.goto (retxTarget u.cfg))
      (exchanged { s with vars := { s.vars with retxUsed := true, retxPass := true } } e .rxRetx f,
        e.transportFault)) := by
  have hex := exchange_of_read (s := { s with vars := { s.vars with retxUsed := true, retxPass := true } }) (e := e)
    (dst := .rxRetx) rfl hmax hread
  have hstate : xcvStep s e = xcvRetx s e := by simp only [xcvStep, hx]
  simp only [hstate, xcvRetx, hsrc]
  exact bind_of_ok hex _

/-! The end of a transaction (R219, R220, R262). -/

theorem ite_isSome_eq_ite_eq_none {α : Type} (o : Option OuterTxn) (x y : α) [Decidable (o = none)] :
    (if o.isSome then x else y) = if o = none then y else x := by
  cases o <;> simp

theorem returnXchg_of_port {cl : Cls} {a : Nat} (h : s.xcvCaller = .port cl a) (r : Reply) :
    s.returnXchg r = { s with
      xcvState := if s.xcvOuter = none then .idle else .s3gRefresh
      answers := ⟨cl, a, r.status, r.data⟩ :: s.answers } := by
  rw [returnXchg_eq, ite_isSome_eq_ite_eq_none, h]

theorem returnXchg_of_sequencer (h : s.xcvCaller = .poller ∨ s.xcvCaller = .probe ∨ s.xcvCaller = .fetcher) (r : Reply) :
    s.returnXchg r = { s with
      xcvState := if s.xcvOuter = none then .idle else .s3gRefresh
      xcvReturn := some r } := by
  rw [returnXchg_eq, ite_isSome_eq_ite_eq_none]
  rcases h with h | h | h <;> rw [h]

theorem xcvStep_fail (hx : s.xcvState = .fail) :
    xcvStep s e = .ok ({ s with transmissionErrors := bump s.cfg s.transmissionErrors }.returnXchg ⟨s.xcvErr, []⟩) := by
  simp only [xcvStep, hx, xcvFail]

theorem xcvStep_fail_of_port {cl : Cls} {a : Nat} (hx : s.xcvState = .fail) (hc : s.xcvCaller = .port cl a) :
    xcvStep s e = .ok { s with
      transmissionErrors := bump s.cfg s.transmissionErrors
      xcvState := if s.xcvOuter = none then .idle else .s3gRefresh
      answers := ⟨cl, a, s.xcvErr, []⟩ :: s.answers } :=
  (xcvStep_fail hx).trans <| congrArg Except.ok <|
    returnXchg_of_port (s := { s with transmissionErrors := bump s.cfg s.transmissionErrors }) hc _

theorem xcvStep_fail_of_sequencer (hx : s.xcvState = .fail)
    (hc : s.xcvCaller = .poller ∨ s.xcvCaller = .probe ∨ s.xcvCaller = .fetcher) :
    xcvStep s e = .ok { s with
      transmissionErrors := bump s.cfg s.transmissionErrors
      xcvState := if s.xcvOuter = none then .idle else .s3gRefresh
      xcvReturn := some ⟨s.xcvErr, []⟩ } :=
  (xcvStep_fail hx).trans <| congrArg Except.ok <|
    returnXchg_of_sequencer (s := { s with transmissionErrors := bump s.cfg s.transmissionErrors }) hc _

theorem xcvStep_done (hw : s.cfg.wf = true) (hm : primaryHolds s m) (hx : s.xcvState = .done) :
    xcvStep s e =
      .ok ({ s with respMsg := s.respMsg.write 0 m, respLen := m.length }.returnXchg ⟨.ok, m⟩) := by
  have hresp := memWrite_of_le (s := s) (b := .resp) (off := 0) (v := m) (by
    obtain ⟨-, -, -, hlen⟩ := hm
    simpa [capacity] using hlen)
  simp only [xcvStep, hx, xcvDone, primaryMessage_of_primaryHolds hw hm, hresp, bind, Except.bind]
  rfl

theorem xcvStep_done_of_port {cl : Cls} {a : Nat} (hw : s.cfg.wf = true) (hm : primaryHolds s m) (hx : s.xcvState = .done)
    (hc : s.xcvCaller = .port cl a) :
    xcvStep s e = .ok { s with
      respMsg := s.respMsg.write 0 m
      respLen := m.length
      xcvState := if s.xcvOuter = none then .idle else .s3gRefresh
      answers := ⟨cl, a, .ok, m⟩ :: s.answers } :=
  (xcvStep_done hw hm hx).trans <| congrArg Except.ok <|
    returnXchg_of_port (s := { s with respMsg := s.respMsg.write 0 m, respLen := m.length }) hc _

theorem xcvStep_done_of_sequencer (hw : s.cfg.wf = true) (hm : primaryHolds s m) (hx : s.xcvState = .done)
    (hc : s.xcvCaller = .poller ∨ s.xcvCaller = .probe ∨ s.xcvCaller = .fetcher) :
    xcvStep s e = .ok { s with
      respMsg := s.respMsg.write 0 m
      respLen := m.length
      xcvState := if s.xcvOuter = none then .idle else .s3gRefresh
      xcvReturn := some ⟨.ok, m⟩ } :=
  (xcvStep_done hw hm hx).trans <| congrArg Except.ok <|
    returnXchg_of_sequencer (s := { s with respMsg := s.respMsg.write 0 m, respLen := m.length }) hc _

theorem xcvStep_idle (hx : s.xcvState = .idle) : xcvStep s e = .ok s := by
  simp only [xcvStep, hx]

end Sys2Proof.Laws

/-! PROOFS. The transceiver (42_transceiver.md): what the steps of a transaction do, one state at a time (R201 to R220). -/

namespace Sys2Proof.Laws

open Sys2Proof.Machine

variable {c : Config} {m : List Byte}

/-- Settles O19: the length field decides. -/
theorem stepOneChecksAndLatches : Obligations.StepOneChecksAndLatches := by
  refine fun s e hl hx => ⟨fun hlong => runs_xcv hl fun rest => xcvStep_s1Check_of_lt hx hlong, fun hfit hlen => ?_⟩
  exact ⟨_, runs_xcv (t := { s with
      reqMsg := s.reqMsg.write 0 s.xcvOperand
      reqLen := s.xcvOperand.length
      vars := latchDirective s s.xcvOperand
      xcvState := .s2Send }) hl fun rest => xcvStep_s1Check_of_le hx hfit hlen, rfl, get_write_zero rfl⟩

/-- Settles O21: the frame read back from `tx_buf` is the one encoded. -/
theorem stepTwoSends : Obligations.StepTwoSends := by
  intro s e m hl hx hread hlen hmax hm
  refine ⟨fun st henc => runs_xcv hl fun rest => xcvStep_s2Send_of_error hx hread hlen henc, fun f henc => ?_⟩
  have hf : f.length = s.frameSize := length_of_encodeFrame hm henc
  refine ⟨_, runs_afterExchange (t := exchanged { s with txBuf := s.txBuf.write 0 f, crcSize := 2, readyLatch := false }
    e .rxScratch f) hl (fun rest => xcvStep_s2Send_of_ok hx hread hlen hmax henc hf) (fun rest => rfl), ?_, ?_, ?_, ?_⟩
  · exact fun a => (byte_afterExchange rfl a).trans (get_write_zero hf a)
  · exact fun _ a => (byte_afterExchange rfl a).trans (get_write_zero (fit_length _ _) a)
  · exact fun h => by rw [afterExchange_of_answer h]; rfl
  · exact fun h => by rw [afterExchange_of_fault h]; rfl

/-! The answer of a wait on a clear latch (R431, R481). -/

theorem clearLatchAnswer_ready {ms : Nat} (h : ms ≠ 0) : clearLatchAnswer (some ms) .ready = .ready := by
  simp [clearLatchAnswer, h]

theorem clearLatchAnswer_ready_zero : clearLatchAnswer (some 0) .ready = .timeout := rfl

theorem clearLatchAnswer_timeout (w : Option Nat) : clearLatchAnswer w .timeout = .timeout := rfl

theorem clearLatchAnswer_edge {ms d : Nat} (h : ms ≠ 0) (hd : d ≤ ms) :
    clearLatchAnswer (some ms) (.edgeAfter d) = .ready := if_pos ⟨h, hd⟩

theorem clearLatchAnswer_edge_late {ms d : Nat} (h : ms = 0 ∨ ms < d) :
    clearLatchAnswer (some ms) (.edgeAfter d) = .timeout := if_neg (by omega)

/-- Settles O22: on a set latch the environment is not asked, on a clear one its answer decides. -/
theorem readyWaitsDecide : Obligations.ReadyWaitsDecide := by
  refine fun s e hl => ⟨runs_readyEdge hl, fun hx => ⟨fun hset => ?_, fun hclear => ?_⟩,
    fun hx => ⟨fun hset => ?_, fun hclear => ⟨fun ha => ?_, fun ha => ?_⟩⟩⟩
  · exact runs_xcv hl fun rest => xcvStep_s3aWait_of_set hx hset
  · have hgo (ha : clearLatchAnswer (some s.vars.timeoutMs) e.ready = .ready) :
        Runs s (.xcv e) { s with xcvState := .s3bPoll } :=
      runs_xcv hl fun rest => xcvStep_s3aWait_of_ready hx hclear ha
    have hstop (ha : clearLatchAnswer (some s.vars.timeoutMs) e.ready = .timeout) :
        Runs s (.xcv e) { s with xcvState := .fail, xcvErr := .timeout } :=
      runs_xcv hl fun rest => xcvStep_s3aWait_of_timeout hx hclear ha
    refine ⟨fun ha hms => hgo ?_, fun ha hms => hstop ?_, fun d ha hms hd => hgo ?_, fun d ha hd => hstop ?_,
      fun ha => hstop ?_, fun ha => runs_xcv hl fun rest => xcvStep_s3aWait_of_interrupted hx hclear ha⟩
    · rw [ha, clearLatchAnswer_ready hms]
    · rw [ha, hms, clearLatchAnswer_ready_zero]
    · rw [ha, clearLatchAnswer_edge hms hd]
    · rw [ha, clearLatchAnswer_edge_late hd]
    · rw [ha, clearLatchAnswer_timeout]
  · exact runs_xcv hl fun rest => xcvStep_s3bSidewait_of_set hx hset
  · exact runs_xcv hl fun rest => xcvStep_s3bSidewait_of_ne hx hclear ha
  · exact runs_xcv hl fun rest => xcvStep_s3bSidewait_of_interrupted hx hclear ha

/-- Settles O23: both values of `RETX_SOURCE` are one argument over the buffer it names. -/
theorem pollOrReuse : Obligations.PollOrReuse := by
  refine fun s e f hl hx hmax => ⟨fun hp henc => ?_, fun st hp henc => ?_, fun hp => ?_⟩
  · have hf : f.length = s.frameSize := length_of_encodeFrame (pollMsg_of_wf hl.2).1 henc
    refine ⟨_, runs_afterExchange (t := exchanged { s with txBuf := s.txBuf.write 0 f, crcSize := 2 } e .rxPrimary f) hl
      (fun rest => xcvStep_s3bPoll_of_ok hx hp hmax henc hf) (fun rest => rfl), ?_, ?_, ?_, ?_⟩
    · exact fun a => (byte_afterExchange rfl a).trans (get_write_zero hf a)
    · exact fun _ a => (byte_afterExchange rfl a).trans (get_write_zero (fit_length _ _) a)
    · exact fun h => by rw [afterExchange_of_answer h]; rfl
    · exact fun h => by rw [afterExchange_of_fault h]; rfl
  · exact runs_xcv hl fun rest => xcvStep_s3bPoll_of_error hx hp henc
  · have hreuse (hread : (s.buf (retxBuffer s.cfg)).read 0 s.frameSize = some f) : ∃ t, Runs s (.xcv e) t ∧
        t = { s with
          rxPrimary := t.rxPrimary
          vars := { s.vars with retxPass := false }
          xcvState := .s3cValidate } ∧
        ∀ a, t.byte .rxPrimary a = if a < s.frameSize then f[a]? else s.byte .rxPrimary a :=
      ⟨{ s with
          rxPrimary := s.rxPrimary.write 0 f
          vars := { s.vars with retxPass := false }
          xcvState := .s3cValidate },
        runs_xcv hl fun rest => xcvStep_s3bPoll_of_retxPass hx hp hmax (by rw [buf_inputs]; exact hread), rfl,
        get_write_zero (length_of_read hread)⟩
    refine ⟨fun hsrc hread => hreuse ?_, fun hsrc hread => hreuse ?_⟩
    · rwa [retxBuffer_newExchange hsrc]
    · rwa [retxBuffer_sideBuffer hsrc]

/-- Settles O24: the side frame that is read back is the one received. -/
theorem sideExchangeDefers : Obligations.SideExchangeDefers := by
  intro s e f hl hx hmax hread
  refine ⟨_, runs_afterExchange (t := exchanged s e .rxSide f) hl (fun rest => xcvStep_s3bSide hx hmax hread)
    (fun rest => rfl), ?_, ?_, ?_⟩
  · exact fun _ a => (byte_afterExchange rfl a).trans (get_write_zero (fit_length _ _) a)
  · exact fun h => by rw [afterExchange_of_answer h]; rfl
  · exact fun h => by rw [afterExchange_of_fault h]; rfl

/-- Settles O25: the check and the message type each have three ways on. -/
theorem validateThenAck : Obligations.ValidateThenAck := by
  refine fun s e hl => ⟨fun f hx hmax hread => ⟨fun hok => ?_, fun hbad hu => ?_, fun hbad hu => ?_⟩,
    fun hx => ⟨fun hd => ?_, fun b hd hb => ⟨fun hack hu => ?_, fun hack hu => ?_, fun hack => ?_⟩⟩⟩
  · exact runs_xcv hl fun rest => xcvStep_s3cValidate_of_valid hx hmax hread hok
  · exact runs_xcv hl fun rest => xcvStep_s3cValidate_of_invalid_unused hx hmax hread hbad hu
  · exact runs_xcv hl fun rest => xcvStep_s3cValidate_of_invalid_used hx hmax hread hbad hu
  · exact runs_xcv hl fun rest => xcvStep_s3dAck_of_deferred hx hd
  · exact runs_xcv hl fun rest => xcvStep_s3dAck_of_ack_unused hl.2 hx hd hb hack hu
  · exact runs_xcv hl fun rest => xcvStep_s3dAck_of_ack_used hl.2 hx hd hb hack hu
  · exact runs_xcv hl fun rest => xcvStep_s3dAck_of_ne hl.2 hx hd hb hack

/-! The directives a response may carry (R264 to R267). -/

theorem matchesShape_eq_true_iff {k : Triplet} {len : Nat} :
    matchesShape k len m = true ↔ 7 ≤ m.length ∧ m.length = len ∧ triplet m = k := by
  simp only [matchesShape, Bool.and_eq_true, decide_eq_true_eq, and_assoc]

/-- The sub-codes of a well-formed `Config` are distinct, so that each row of R266 is met by its own code alone. -/
theorem txnSubOf_of_mem {code : Byte} {sub : TxnSub} (hc : c.wf = true)
    (h : (code, sub) ∈ [(c.subMsgtype, TxnSub.messageTypeInvalid), (c.subClassid, TxnSub.classIdInvalid),
      (c.subFramecrc, TxnSub.frameCrc), (c.subClass, TxnSub.classInvalid), (c.subDatalen, TxnSub.dataLengthInvalid),
      (c.subMode, TxnSub.wrongMode)]) : txnSubOf c code = some sub := by
  have hcodes := subCodes_of_wf hc
  unfold txnSubOf
  grind

theorem txnSubOf_of_not_mem {code : Byte}
    (h : code ∉ [c.subMsgtype, c.subClassid, c.subFramecrc, c.subClass, c.subDatalen, c.subMode]) :
    txnSubOf c code = none := by
  simp only [List.mem_cons, List.not_mem_nil, or_false, not_or] at h
  simp [txnSubOf, h]

/-- An error response of the core class has the variant of its sub-code, if any (R265). -/
theorem txnError_of_core (hlen : m.length = c.lError) (hcls : byteAt m 4 = c.classCore) (hcmd : byteAt m 5 = c.cmdError) :
    txnError c m = txnSubOf c (byteAt m 6) := if_pos ⟨hlen, hcls, hcmd⟩

theorem txnError_eq_none (h : m.length ≠ c.lError ∨ byteAt m 4 ≠ c.classCore ∨ byteAt m 5 ≠ c.cmdError ∨
    byteAt m 6 ∉ [c.subMsgtype, c.subClassid, c.subFramecrc, c.subClass, c.subDatalen, c.subMode]) :
    txnError c m = none := by
  by_cases hcore : m.length = c.lError ∧ byteAt m 4 = c.classCore ∧ byteAt m 5 = c.cmdError
  · obtain ⟨hlen, hcls, hcmd⟩ := hcore
    rw [txnError_of_core hlen hcls hcmd]
    exact txnSubOf_of_not_mem (by tauto)
  · exact if_neg hcore

theorem waitDirective_of_shape (h : matchesShape c.tWait c.lWait m = true) :
    waitDirective c m = some (be32 m c.valueOffset) := if_pos h

theorem waitDirective_eq_none (h : ¬ matchesShape c.tWait c.lWait m = true) : waitDirective c m = none := if_neg h

/-- Settles O26: the message type first, then the transaction error, then, one step later, the Wait directive. -/
theorem typeThenWait : Obligations.TypeThenWait := by
  refine fun s e m hl hm => ⟨fun hx => ⟨fun ht => ?_, fun ht => ⟨?_, fun hnone => ?_⟩⟩,
    fun hx => ⟨fun hmin hlen htri => ?_, fun hnone => ?_⟩⟩
  · exact runs_xcv hl fun rest => xcvStep_s3eType_of_ne hl.2 hm hx ht
  · intro code sub hlen hcls hcmd hcode hmem
    have herr : txnError s.cfg m = some sub := by
      rw [txnError_of_core hlen hcls hcmd, hcode, txnSubOf_of_mem hl.2 hmem]
    exact runs_xcv hl fun rest => xcvStep_s3eType_of_some hl.2 hm hx ht herr
  · exact runs_xcv hl fun rest => xcvStep_s3eType_of_none hl.2 hm hx ht (txnError_eq_none hnone)
  · have hwait := waitDirective_of_shape (matchesShape_eq_true_iff.2 ⟨hmin, hlen, htri⟩)
    exact runs_xcv hl fun rest => xcvStep_s3fWaitdir_of_some hl.2 hm hx hwait
  · have hshape : ¬ matchesShape s.cfg.tWait s.cfg.lWait m = true := by
      rw [matchesShape_eq_true_iff]
      rintro ⟨hmin, hlen, htri⟩
      exact hnone.elim (not_lt.2 hmin) (·.elim (· hlen) (· htri))
    exact runs_xcv hl fun rest => xcvStep_s3fWaitdir_of_none hl.2 hm hx (waitDirective_eq_none hshape)

/-- Settles O30: the flags are set before the exchange, if there is one. -/
theorem retransmitOnce : Obligations.RetransmitOnce := by
  refine fun s e hl hx => ⟨fun hsrc => runs_xcv hl fun rest => xcvStep_retx_of_sideBuffer hx hsrc,
    fun f hsrc hmax hread => ?_⟩
  refine ⟨_, runs_afterExchange
    (t := exchanged { s with vars := { s.vars with retxUsed := true, retxPass := true } } e .rxRetx f) hl
    (fun rest => xcvStep_retx_of_newExchange hx hsrc hmax hread) (fun rest => rfl), ?_, ?_, ?_⟩
  · exact fun _ a => (byte_afterExchange rfl a).trans (get_write_zero (fit_length _ _) a)
  · exact fun h => by rw [afterExchange_of_answer h]; rfl
  · exact fun h => by rw [afterExchange_of_fault h]; rfl

/-- Settles O31: the result goes where the issuer is. -/
theorem failureExit : Obligations.FailureExit := by
  refine fun s e hl hx => ⟨fun cl a hport => ?_, fun hseq => ?_⟩
  · exact runs_xcv hl fun rest => xcvStep_fail_of_port hx hport
  · exact runs_xcv hl fun rest => xcvStep_fail_of_sequencer hx hseq

/-- Settles O32: the message is stored in `resp_msg`, and handed on. -/
theorem successReturnsResponse : Obligations.SuccessReturnsResponse := by
  refine fun s e m hl hx hm => ⟨fun cl a hport => ?_, fun hseq => ?_⟩
  · exact ⟨{ s with
      respMsg := s.respMsg.write 0 m
      respLen := m.length
      xcvState := if s.xcvOuter = none then .idle else .s3gRefresh
      answers := ⟨cl, a, .ok, m⟩ :: s.answers },
      runs_xcv hl fun rest => xcvStep_done_of_port hl.2 hm hx hport, rfl, get_write_zero rfl⟩
  · exact ⟨{ s with
      respMsg := s.respMsg.write 0 m
      respLen := m.length
      xcvState := if s.xcvOuter = none then .idle else .s3gRefresh
      xcvReturn := some ⟨.ok, m⟩ },
      runs_xcv hl fun rest => xcvStep_done_of_sequencer hl.2 hm hx hseq, rfl, get_write_zero rfl⟩

end Sys2Proof.Laws

/-! PROOFS. Whole transactions (R224): the steps of the transceiver from the acceptance of a request, every exchange
answered and every ready wait met, followed state by state. -/

namespace Sys2Proof.Laws

open Sys2Proof.Machine

variable {s t : State} {e : Env} {es : List Env} {x : XcvState} {k n : Nat} {v : LoopVars} {f r : List Byte}

/-! Runs of the transceiver. -/

theorem runXcv_append (as bs : List Env) (s : State) : runXcv (as ++ bs) s = runXcv as s >>= runXcv bs := by
  induction as generalizing s with
  | nil => rfl
  | cons e as ih =>
    simp only [List.cons_append, runXcv]
    cases xcvStep s e with
    | ok t => exact ih t
    | error x => rfl

/-- A run goes one step further. -/
theorem runXcv_take_succ {u : State} (h : runXcv (es.take n) s = .ok t) (hn : n < es.length)
    (hstep : xcvStep t es[n] = .ok u) : runXcv (es.take (n + 1)) s = .ok u := by
  rw [List.take_succ_eq_append_getElem hn, runXcv_append, bind_of_ok h, runXcv, hstep]
  rfl

theorem runXcv_of_idle (hx : s.xcvState = .idle) (es : List Env) : runXcv es s = .ok s := by
  induction es with
  | nil => rfl
  | cons e es ih => rw [runXcv, xcvStep_idle hx]; exact ih

/-- Once the sequencer is idle, the answers left over are not asked for. -/
theorem runXcv_of_take (h : runXcv (es.take n) s = .ok t) (hx : t.xcvState = .idle) : runXcv es s = .ok t := by
  rw [← List.take_append_drop n es, runXcv_append, bind_of_ok h, runXcv_of_idle hx]

/-! The request, and how far its transaction has come. -/

/-- A request at `S1_CHECK` that the sequencer can send, under a `Config` whose poll message it can send. -/
structure Sendable (s : State) : Prop where
  wf : s.cfg.wf = true
  frameMin : 64 ≤ s.frameSize
  frameMax : s.frameSize ≤ s.cfg.maximumFrameSize
  crcSize : s.crcSize = 2
  xcvState : s.xcvState = .s1Check
  message : isMessage s.xcvOperand = true
  fits : s.xcvOperand.length ≤ s.frameSize - 2
  crcFits : s.xcvOperand.length ≤ s.cfg.crc16MaxLength
  pollFits : s.cfg.pollMsg.length ≤ s.cfg.crc16MaxLength
  timeout : s.cfg.tReadyDefaultMs ≠ 0

theorem Sendable.of_slotInv (hs : SlotInv s) (hx : s.xcvState = .s1Check) (hm : isMessage s.xcvOperand = true)
    (hfit : s.xcvOperand.length ≤ s.frameSize - 2) (hcrc : s.xcvOperand.length ≤ s.cfg.crc16MaxLength)
    (hpoll : s.cfg.pollMsg.length ≤ s.cfg.crc16MaxLength) (hms : s.cfg.tReadyDefaultMs ≠ 0) : Sendable s := by
  obtain ⟨hw, -, ⟨⟨hmin, hmax⟩, hcs, -⟩, -⟩ := hs
  exact ⟨hw, (frameSizeMin_of_wf hw).trans hmin, hmax, hcs, hx, hm, hfit, hcrc, hpoll, hms⟩

/-- The transaction of `s` has come to `t`: it stands at `x`, with `k` frames sent and the loop variables `v`. Until step
3g nothing else has changed that it answers with, that it counts or that governs it. -/
structure InProgress (s : State) (x : XcvState) (k : Nat) (v : LoopVars) (t : State) : Prop where
  cfg : t.cfg = s.cfg
  frameSize : t.frameSize = s.frameSize
  speedSclk : t.speedSclk = s.speedSclk
  linkOwner : t.linkOwner = s.linkOwner
  xcvCaller : t.xcvCaller = s.xcvCaller
  xcvOuter : t.xcvOuter = s.xcvOuter
  answers : t.answers = s.answers
  transmissionErrors : t.transmissionErrors = s.transmissionErrors
  xcvState : t.xcvState = x
  sent : t.sent.length = s.sent.length + k
  vars : t.vars = v

namespace InProgress

theorem frameMax (ht : InProgress s x k v t) (hs : Sendable s) : t.frameSize ≤ t.cfg.maximumFrameSize := by
  rw [ht.frameSize, ht.cfg]
  exact hs.frameMax

theorem wf (ht : InProgress s x k v t) (hs : Sendable s) : t.cfg.wf = true := ht.cfg ▸ hs.wf

/-- Another state of the sequencer, and nothing else. -/
theorem goto {y : XcvState} (ht : InProgress s x k v t) : InProgress s y k v (t.goto y) :=
  { ht with xcvState := rfl }

end InProgress

/-! One step each (R201 to R213). -/

theorem latch_steps (hs : Sendable s) (e : Env) :
    ∃ t, xcvStep s e = .ok t ∧ InProgress s .s2Send 0 (latchDirective s s.xcvOperand) t ∧
      t.reqMsg.read 0 t.reqLen = some s.xcvOperand := by
  obtain ⟨-, hlen⟩ := isMessage_eq_true_iff.1 hs.message
  have hbound : s.xcvOperand.length ≤ s.cfg.maximumFrameSize - 2 := hs.fits.trans (Nat.sub_le_sub_right hs.frameMax 2)
  have hfield : be16 s.xcvOperand 1 ≤ s.cfg.maximumFrameSize - s.crcSize := by
    rw [hs.crcSize]
    exact hlen.trans_le hbound
  exact ⟨_, xcvStep_s1Check_of_le hs.xcvState hfield hbound, ⟨rfl, rfl, rfl, rfl, rfl, rfl, rfl, rfl, rfl, rfl, rfl⟩,
    read_write_zero rfl⟩

theorem send_steps (hs : Sendable s) (ht : InProgress s .s2Send k v t)
    (hreq : t.reqMsg.read 0 t.reqLen = some s.xcvOperand) (hfault : e.transportFault = false) :
    ∃ u, xcvStep t e = .ok u ∧ InProgress s .s3aWait (k + 1) (freshVars s.cfg v) u := by
  obtain ⟨-, hlen⟩ := isMessage_eq_true_iff.1 hs.message
  have hbound : s.xcvOperand.length ≤ t.cfg.maximumFrameSize - 2 := by
    rw [ht.cfg]
    exact hs.fits.trans (Nat.sub_le_sub_right hs.frameMax 2)
  have henc := encodeFrame_of_le (c := t.cfg) (n := t.frameSize) hlen (by rw [ht.frameSize]; exact hs.fits)
    (by rw [ht.cfg]; exact hs.crcFits)
  have hstep := xcvStep_s2Send_of_ok (e := e) ht.xcvState hreq (length_of_read hreq ▸ hbound) (ht.frameMax hs) henc
    (length_of_encodeFrame hs.message henc)
  rw [afterExchange_of_answer hfault] at hstep
  exact ⟨_, hstep, { ht with
    xcvState := rfl
    sent := congrArg (· + 1) ht.sent
    vars := congrArg₂ freshVars ht.cfg ht.vars }⟩

/-- The ready wait goes on, whatever the latch (R206). -/
theorem wait_steps (ht : InProgress s .s3aWait k v t) (hms : v.timeoutMs ≠ 0) (ha : e.ready = .ready) :
    ∃ u, xcvStep t e = .ok u ∧ InProgress s .s3bPoll k v u ∧ ∀ b, u.buf b = t.buf b := by
  cases hlatch : t.readyLatch with
  | true =>
    exact ⟨_, xcvStep_s3aWait_of_set ht.xcvState hlatch, { ht with xcvState := rfl }, fun b => by cases b <;> rfl⟩
  | false =>
    have hready : clearLatchAnswer (some t.vars.timeoutMs) e.ready = .ready := by
      rw [ht.vars, ha, clearLatchAnswer_ready hms]
    exact ⟨_, xcvStep_s3aWait_of_ready ht.xcvState hlatch hready, ht.goto, fun b => by cases b <;> rfl⟩

theorem encodeFrame_pollMsg (hs : Sendable s) (ht : InProgress s x k v t) :
    encodeFrame t.cfg t.frameSize t.cfg.pollMsg = .ok (frameOf t.cfg t.frameSize t.cfg.pollMsg) := by
  obtain ⟨hm, hmax⟩ := pollMsg_of_wf hs.wf
  obtain ⟨-, hlen⟩ := isMessage_eq_true_iff.1 hm
  have hmin := hs.frameMin
  rw [ht.cfg, ht.frameSize]
  exact encodeFrame_of_le hlen (by omega) hs.pollFits

theorem poll_steps (hs : Sendable s) (ht : InProgress s .s3bPoll k v t) (hp : v.retxPass = false)
    (hfault : e.transportFault = false) :
    ∃ u, xcvStep t e = .ok u ∧ InProgress s .s3bSidewait (k + 1) v u ∧ (∃ f, u.txBuf.read 0 s.frameSize = some f) ∧
      u.rxPrimary.read 0 s.frameSize = some (fit s.frameSize e.rx) := by
  have henc := encodeFrame_pollMsg hs ht
  have hf := length_of_encodeFrame (pollMsg_of_wf (ht.wf hs)).1 henc
  have hstep := xcvStep_s3bPoll_of_ok (e := e) ht.xcvState (ht.vars ▸ hp) (ht.frameMax hs) henc hf
  rw [afterExchange_of_answer hfault] at hstep
  refine ⟨_, hstep, { ht with xcvState := rfl, sent := congrArg (· + 1) ht.sent },
    ⟨frameOf t.cfg t.frameSize t.cfg.pollMsg, ?_⟩, ?_⟩
  · exact read_write_zero (hf.trans ht.frameSize)
  · exact ht.frameSize ▸ read_write_zero (fit_length t.frameSize e.rx)

theorem sidewait_steps (ht : InProgress s .s3bSidewait k v t) (ha : e.ready = .ready) :
    ∃ u, xcvStep t e = .ok u ∧ InProgress s .s3bSide k v u ∧ ∀ b, u.buf b = t.buf b := by
  cases hlatch : t.readyLatch with
  | true =>
    exact ⟨_, xcvStep_s3bSidewait_of_set ht.xcvState hlatch, { ht with xcvState := rfl }, fun b => by cases b <;> rfl⟩
  | false =>
    exact ⟨_, xcvStep_s3bSidewait_of_ne ht.xcvState hlatch (by simp [ha]), ht.goto, fun b => by cases b <;> rfl⟩

theorem side_steps (hs : Sendable s) (ht : InProgress s .s3bSide k v t) (htx : t.txBuf.read 0 s.frameSize = some f)
    (hfault : e.transportFault = false) :
    ∃ u, xcvStep t e = .ok u ∧ InProgress s .s3cValidate (k + 1)
        { v with deferredFail := v.deferredFail || !check s.cfg s.frameSize (fit s.frameSize e.rx) } u ∧
      u.txBuf = t.txBuf ∧ u.rxPrimary = t.rxPrimary ∧ u.rxSide.read 0 s.frameSize = some (fit s.frameSize e.rx) := by
  have hstep := xcvStep_s3bSide (e := e) ht.xcvState (ht.frameMax hs) (ht.frameSize ▸ htx)
  rw [afterExchange_of_answer hfault] at hstep
  refine ⟨_, hstep, { ht with xcvState := rfl, sent := congrArg (· + 1) ht.sent, vars := ?_ }, rfl, rfl, ?_⟩
  · rw [← ht.vars, ← ht.cfg, ← ht.frameSize]
    rfl
  · exact ht.frameSize ▸ read_write_zero (fit_length t.frameSize e.rx)

/-- The first invalid primary frame costs the retransmit (R211). -/
theorem invalid_steps (hs : Sendable s) (ht : InProgress s .s3cValidate k v t)
    (hread : t.rxPrimary.read 0 s.frameSize = some f) (hbad : validateFrame s.cfg s.frameSize f ≠ .ok)
    (hu : v.retxUsed = false) :
    ∃ u, xcvStep t e = .ok u ∧ InProgress s .retx k v u ∧ ∀ b, u.buf b = t.buf b :=
  ⟨_, xcvStep_s3cValidate_of_invalid_unused ht.xcvState (ht.frameMax hs) (ht.frameSize ▸ hread)
    (by rw [ht.cfg, ht.frameSize]; exact hbad) (ht.vars ▸ hu), ht.goto, fun b => by cases b <;> rfl⟩

/-- The retransmit leaves the frame to take where the next pass looks: the one it receives, or the side frame (R213). -/
theorem retx_steps (hs : Sendable s) (ht : InProgress s .retx k v t) (htx : t.txBuf.read 0 s.frameSize = some f)
    (hside : t.rxSide.read 0 s.frameSize = some r) (hfault : e.transportFault = false) :
    ∃ u, xcvStep t e = .ok u ∧ InProgress s (retxTarget s.cfg) (k + if s.cfg.retxSource = .newExchange then 1 else 0)
        { v with retxUsed := true, retxPass := true } u ∧
      (u.buf (retxBuffer s.cfg)).read 0 s.frameSize =
        some (if s.cfg.retxSource = .newExchange then fit s.frameSize e.rx else r) := by
  cases hsrc : s.cfg.retxSource with
  | newExchange =>
    have hstep := xcvStep_retx_of_newExchange (e := e) ht.xcvState (ht.cfg ▸ hsrc) (ht.frameMax hs) (ht.frameSize ▸ htx)
    rw [afterExchange_of_answer hfault] at hstep
    refine ⟨_, hstep, { ht with xcvState := ?_, sent := congrArg (· + 1) ht.sent, vars := ?_ }, ?_⟩
    · exact congrArg retxTarget ht.cfg
    · exact congrArg (fun w : LoopVars => { w with retxUsed := true, retxPass := true }) ht.vars
    · rw [retxBuffer_newExchange hsrc, ← ht.frameSize]
      exact read_write_zero (fit_length t.frameSize e.rx)
  | sideBuffer =>
    refine ⟨_, xcvStep_retx_of_sideBuffer ht.xcvState (ht.cfg ▸ hsrc), { ht with xcvState := ?_, vars := ?_ }, ?_⟩
    · exact congrArg retxTarget ht.cfg
    · exact congrArg (fun w : LoopVars => { w with retxUsed := true, retxPass := true }) ht.vars
    · rw [retxBuffer_sideBuffer hsrc]
      exact hside

/-- The retransmit pass polls nothing (R210). -/
theorem reuse_steps (hs : Sendable s) (ht : InProgress s .s3bPoll k v t) (hp : v.retxPass = true)
    (hread : (t.buf (retxBuffer s.cfg)).read 0 s.frameSize = some f) :
    ∃ u, xcvStep t e = .ok u ∧ InProgress s .s3cValidate k { v with retxPass := false } u ∧
      u.rxPrimary.read 0 s.frameSize = some f := by
  have hstep := xcvStep_s3bPoll_of_retxPass (e := e) ht.xcvState (ht.vars ▸ hp) (ht.frameMax hs)
    (by rw [ht.cfg, ht.frameSize]; exact hread)
  refine ⟨_, hstep, { ht with xcvState := rfl, vars := ?_ }, read_write_zero (length_of_read hread)⟩
  exact congrArg (fun w : LoopVars => { w with retxPass := false }) ht.vars

/-! The passes of a transaction. -/

/-- Every exchange is answered, every ready wait met. -/
abbrev Answered (es : List Env) : Prop := ∀ e ∈ es, e.ready = .ready ∧ e.transportFault = false

/-- The loop variables of the first pass, whose side frame is `f` (R205, R209). -/
def firstPassVars (s : State) (f : List Byte) : LoopVars :=
  { freshVars s.cfg (latchDirective s s.xcvOperand) with deferredFail := !check s.cfg s.frameSize f }

/-- The first pass, from the request to the validation: it polls with the fourth answer, and exchanges again with the
sixth. -/
theorem firstPass_runs (hs : Sendable s) (hes : Answered es) (hn : 6 ≤ es.length) :
    ∃ t, runXcv (es.take 6) s = .ok t ∧ InProgress s .s3cValidate 3 (firstPassVars s (fit s.frameSize es[5].rx)) t ∧
      (∃ f, t.txBuf.read 0 s.frameSize = some f) ∧ t.rxPrimary.read 0 s.frameSize = some (fit s.frameSize es[3].rx) ∧
      t.rxSide.read 0 s.frameSize = some (fit s.frameSize es[5].rx) := by
  have hready (i : Nat) (hi : i < es.length) : es[i].ready = .ready := (hes _ (List.getElem_mem hi)).1
  have hfault (i : Nat) (hi : i < es.length) : es[i].transportFault = false := (hes _ (List.getElem_mem hi)).2
  obtain ⟨t₁, hstep, ht₁, hreq⟩ := latch_steps hs es[0]
  have hrun := runXcv_take_succ (es := es) (n := 0) rfl (by omega) hstep
  obtain ⟨t₂, hstep, ht₂⟩ := send_steps hs ht₁ hreq (hfault 1 (by omega))
  have hrun := runXcv_take_succ hrun (by omega) hstep
  obtain ⟨t₃, hstep, ht₃, -⟩ := wait_steps ht₂ hs.timeout (hready 2 (by omega))
  have hrun := runXcv_take_succ hrun (by omega) hstep
  obtain ⟨t₄, hstep, ht₄, ⟨f, htx⟩, hprimary⟩ := poll_steps hs ht₃ rfl (hfault 3 (by omega))
  have hrun := runXcv_take_succ hrun (by omega) hstep
  obtain ⟨t₅, hstep, ht₅, hbuf⟩ := sidewait_steps ht₄ (hready 4 (by omega))
  have hrun := runXcv_take_succ hrun (by omega) hstep
  have htx₅ : t₅.txBuf.read 0 s.frameSize = some f := (congrArg (Memory.read · 0 s.frameSize) (hbuf .tx)).trans htx
  obtain ⟨t₆, hstep, ht₆, htxeq, hprimaryeq, hside⟩ := side_steps hs ht₅ htx₅ (hfault 5 (by omega))
  have hrun := runXcv_take_succ hrun (by omega) hstep
  refine ⟨t₆, hrun, ht₆, ⟨f, htxeq ▸ htx₅⟩, ?_, hside⟩
  rw [hprimaryeq]
  exact (congrArg (Memory.read · 0 s.frameSize) (hbuf .rxPrimary)).trans hprimary

/-- After an invalid poll frame the retransmit pass comes to the validation too, a wait later under `RETX_REWAIT`. The
frame it validates is that of the eighth answer, or the side frame (R210, R213). -/
theorem retransmitPass_runs (hs : Sendable s) (hes : Answered es) (hn : 10 ≤ es.length)
    (hbad : validateFrame s.cfg s.frameSize (fit s.frameSize es[3].rx) ≠ .ok) :
    ∃ n t, n ≤ 10 ∧ runXcv (es.take n) s = .ok t ∧
      InProgress s .s3cValidate (3 + if s.cfg.retxSource = .newExchange then 1 else 0)
        { firstPassVars s (fit s.frameSize es[5].rx) with retxUsed := true } t ∧
      t.rxPrimary.read 0 s.frameSize =
        some (if s.cfg.retxSource = .newExchange then fit s.frameSize es[7].rx else fit s.frameSize es[5].rx) := by
  obtain ⟨t₆, hrun, ht₆, ⟨f, htx⟩, hprimary, hside⟩ := firstPass_runs hs hes (by omega)
  obtain ⟨t₇, hstep, ht₇, hbuf⟩ := invalid_steps (e := es[6]) hs ht₆ hprimary hbad rfl
  have hrun := runXcv_take_succ hrun (by omega) hstep
  have hread (b : BufName) := congrArg (Memory.read · 0 s.frameSize) (hbuf b)
  obtain ⟨t₈, hstep, ht₈, hframe⟩ := retx_steps hs ht₇ ((hread .tx).trans htx) ((hread .rxSide).trans hside)
    (hes es[7] (List.getElem_mem _)).2
  have hrun := runXcv_take_succ hrun (by omega) hstep
  cases hwait : s.cfg.retxRewait with
  | false =>
    rw [show retxTarget s.cfg = .s3bPoll by simp [retxTarget, hwait]] at ht₈
    obtain ⟨t₉, hstep, ht₉, hprimary⟩ := reuse_steps (e := es[8]) hs ht₈ rfl hframe
    exact ⟨9, t₉, by omega, runXcv_take_succ hrun (by omega) hstep, ht₉, hprimary⟩
  | true =>
    rw [show retxTarget s.cfg = .s3aWait by simp [retxTarget, hwait]] at ht₈
    obtain ⟨t₉, hstep, ht₉, hbuf⟩ := wait_steps ht₈ hs.timeout (hes es[8] (List.getElem_mem _)).1
    have hrun := runXcv_take_succ hrun (by omega) hstep
    obtain ⟨t₁₀, hstep, ht₁₀, hprimary⟩ := reuse_steps (e := es[9]) hs ht₉ rfl (hbuf _ ▸ hframe)
    exact ⟨10, t₁₀, by omega, runXcv_take_succ hrun (by omega) hstep, ht₁₀, hprimary⟩

/-- Settles O33: the retransmitted frame, wherever it comes from, is invalid as well. -/
theorem alwaysCorruptFails : Obligations.AlwaysCorruptFails := by
  intro s es cl a _ hinv hx hout hcaller hm hfit hcrc hpoll hms hlen hes
  have hs := Sendable.of_slotInv hinv hx hm hfit hcrc hpoll hms
  have hbad (i : Nat) (hi : i < es.length) : validateFrame s.cfg s.frameSize (fit s.frameSize es[i].rx) ≠ .ok :=
    (hes _ (List.getElem_mem hi)).2.2
  obtain ⟨n, t, hn, hrun, ht, hread⟩ := retransmitPass_runs hs
    (fun e he => ⟨(hes e he).1, (hes e he).2.1⟩) (by omega) (hbad 3 (by omega))
  have hinvalid : validateFrame t.cfg t.frameSize
      (if s.cfg.retxSource = .newExchange then fit s.frameSize es[7].rx else fit s.frameSize es[5].rx) ≠ .ok := by
    rw [ht.cfg, ht.frameSize]
    split
    · exact hbad 7 (by omega)
    · exact hbad 5 (by omega)
  have hrun := runXcv_take_succ hrun (by omega) (xcvStep_s3cValidate_of_invalid_used ht.xcvState (ht.frameMax hs)
    (ht.frameSize ▸ hread) hinvalid (ht.vars ▸ rfl))
  have hrun := runXcv_take_succ hrun (by omega) (xcvStep_fail_of_port (cl := cl) (a := a) rfl (ht.xcvCaller.trans hcaller))
  have hidle : (if t.xcvOuter = none then XcvState.idle else .s3gRefresh) = .idle := if_pos (ht.xcvOuter.trans hout)
  refine ⟨_, runXcv_of_take hrun hidle, hidle, congrArg _ ht.answers, ?_, ?_, ht.linkOwner, ht.frameSize, ht.speedSclk⟩
  · simp [bump, ht.cfg, ht.transmissionErrors]
  · simpa [Nat.add_assoc] using ht.sent

/-! A valid response (R211 to R218). -/

/-- The primary buffer holds the message of a valid frame, whose first byte is its type. -/
theorem primaryHolds_of_frame (hread : t.rxPrimary.read 0 n = some f) (hok : validateFrame t.cfg n f = .ok)
    (hdec : decodeFrame n f = .ok r) (hmax : n ≤ t.cfg.maximumFrameSize) :
    primaryHolds t r ∧ t.byte .rxPrimary 0 = some (byteAt r 0) := by
  have hlen := lengthOk_of_check (check_eq_true hok)
  obtain ⟨hmin, hfit⟩ := lengthOk_iff.1 hlen
  have hr : f.take (lengthField f) = r := by simpa [decodeFrame_of_lengthOk hlen] using hdec
  have hf := length_of_read hread
  have hhead : lengthField (f.take 4) = lengthField f := by simp [lengthField, be16, byteAt]
  have hmsg : t.rxPrimary.read 0 (lengthField f) = some r := hr ▸ read_eq_take hread (by omega)
  refine ⟨⟨f.take 4, read_eq_take hread (show 4 ≤ n by omega), hhead.symm ▸ hmsg, ?_⟩, ?_⟩
  · rw [length_of_read hmsg]
    omega
  · obtain ⟨hrlen, hget⟩ := (read_eq_some_iff ..).1 hmsg
    have h0 : 0 < r.length := by omega
    simpa [State.byte, State.buf, byteAt, h0] using hget 0 h0

/-- A valid Response that is neither a transaction error nor a Wait directive comes to step 3g, if no failure is
deferred. -/
theorem response_runs {x : Env} (hs : Sendable s) (hrun : runXcv (es.take n) s = .ok t) (hn : n + 4 ≤ es.length)
    (ht : InProgress s .s3cValidate k v t) (hread : t.rxPrimary.read 0 s.frameSize = some (fit s.frameSize x.rx))
    (hd : v.deferredFail = false) (hx : answersWith s x r) :
    ∃ u, runXcv (es.take (n + 4)) s = .ok u ∧ InProgress s .s3gApply k v u ∧ primaryHolds u r := by
  obtain ⟨hok, hdec, htype, herr, hwait⟩ := hx
  obtain ⟨hm, hbyte⟩ := primaryHolds_of_frame hread (by rw [ht.cfg]; exact hok) hdec (by rw [ht.cfg]; exact hs.frameMax)
  have hw := ht.wf hs
  have hack : byteAt r 0 ≠ t.cfg.mtAck := by
    rw [htype, ht.cfg]
    exact mtResponse_ne_mtAck hs.wf
  have hrun := runXcv_take_succ hrun (by omega) (xcvStep_s3cValidate_of_valid ht.xcvState (ht.frameMax hs)
    (ht.frameSize ▸ hread) (by rw [ht.cfg, ht.frameSize]; exact hok))
  have hrun := runXcv_take_succ hrun (by omega) (xcvStep_s3dAck_of_ne hw rfl (ht.vars ▸ hd) hbyte hack)
  have hrun := runXcv_take_succ hrun (by omega) (xcvStep_s3eType_of_none hw hm rfl (ht.cfg ▸ htype) (ht.cfg ▸ herr))
  have hrun := runXcv_take_succ hrun (by omega) (xcvStep_s3fWaitdir_of_none hw hm rfl (ht.cfg ▸ hwait))
  exact ⟨_, hrun, { ht with xcvState := rfl }, hm⟩

/-! The link parameters a response confirms (R256, R259). -/

theorem applyLinkParams_speedSclk (t : State) (r : List Byte) :
    (applyLinkParams t r).speedSclk =
      if matchesShape t.cfg.tSpeed t.cfg.lSpeedCfm r = true ∧ be32 r t.cfg.valueOffset = 0
        then (t.vars.pendingSpeedKhz.map (· * 1000)).getD t.speedSclk else t.speedSclk := by
  by_cases hconf : matchesShape t.cfg.tSpeed t.cfg.lSpeedCfm r = true ∧ be32 r t.cfg.valueOffset = 0
  · cases hp : t.vars.pendingSpeedKhz <;> simp [applyLinkParams, confirmedSpeed, value, hconf, hp]
  · have hnone : confirmedSpeed t r = none := if_neg (by rw [Bool.and_eq_true, decide_eq_true_eq]; exact hconf)
    rw [if_neg hconf, applyLinkParams, hnone]

theorem applyLinkParams_frameSize (t : State) (r : List Byte) :
    (applyLinkParams t r).frameSize =
      if matchesShape t.cfg.tFsize t.cfg.lFsizeCfm r = true ∧ be32 r t.cfg.valueOffset = 0
        then t.vars.pendingFrameSize.getD t.frameSize else t.frameSize := by
  by_cases hconf : matchesShape t.cfg.tFsize t.cfg.lFsizeCfm r = true ∧ be32 r t.cfg.valueOffset = 0
  · cases hp : t.vars.pendingFrameSize <;> simp [applyLinkParams, confirmedFsize, value, hconf, hp]
  · have hnone : confirmedFsize t r = none := if_neg (by rw [Bool.and_eq_true, decide_eq_true_eq]; exact hconf)
    rw [if_neg hconf, applyLinkParams, hnone]

/-- The transaction of R224 (a) comes to step 3g with the message of the retransmit pass: its frame is valid, and no failure
is deferred, since the side frame is valid. -/
theorem oneCorrupt_runs (hs : Sendable s) (hes : Answered es) (hn : 14 ≤ es.length)
    (hbad : ∀ e, es[3]? = some e → validateFrame s.cfg s.frameSize (fit s.frameSize e.rx) ≠ .ok)
    (hside : ∀ e, es[5]? = some e → ∃ m, answersWith s e m)
    (hr : ∀ e, es[if s.cfg.retxSource = .newExchange then 7 else 5]? = some e → answersWith s e r) :
    ∃ n t v, n ≤ 14 ∧ runXcv (es.take n) s = .ok t ∧
      InProgress s .s3gApply (3 + if s.cfg.retxSource = .newExchange then 1 else 0) v t ∧ primaryHolds t r ∧
      v.pendingSpeedKhz = (latchDirective s s.xcvOperand).pendingSpeedKhz ∧
      v.pendingFrameSize = (latchDirective s s.xcvOperand).pendingFrameSize ∧
      v.pendingDescUpdate = (latchDirective s s.xcvOperand).pendingDescUpdate := by
  have hget (i : Nat) (hi : i < es.length) : es[i]? = some es[i] := List.getElem?_eq_getElem hi
  obtain ⟨n, t, hn', hrun, ht, hread⟩ := retransmitPass_runs hs hes (by omega) (hbad _ (hget 3 (by omega)))
  have hframe : ∃ x, t.rxPrimary.read 0 s.frameSize = some (fit s.frameSize x.rx) ∧ answersWith s x r := by
    cases hsrc : s.cfg.retxSource with
    | newExchange => exact ⟨es[7], by simpa [hsrc] using hread, hr _ (by simp [hsrc])⟩
    | sideBuffer => exact ⟨es[5], by simpa [hsrc] using hread, hr _ (by simp [hsrc])⟩
  obtain ⟨x, hread, hx⟩ := hframe
  obtain ⟨_, hok, -⟩ := hside _ (hget 5 (by omega))
  have hdeferred : (firstPassVars s (fit s.frameSize es[5].rx)).deferredFail = false := by
    rw [firstPassVars, check_eq_true hok]
    rfl
  obtain ⟨u, hrun, hu, hm⟩ := response_runs hs hrun (by omega) ht hread hdeferred hx
  exact ⟨n + 4, u, _, by omega, hrun, hu, hm, rfl, rfl, rfl⟩

/-- Settles O34: what the response confirms decides between the end of the transaction and the refresh. -/
theorem oneCorruptSucceeds : Obligations.OneCorruptSucceeds := by
  intro s es cl a r _ hinv hx hout hcaller hm hfit hcrc hpoll hms hlen hes hbad hside hr
  have hs := Sendable.of_slotInv hinv hx hm hfit hcrc hpoll hms
  obtain ⟨n, t, v, hn, hrun, ht, hmsg, hspeed, hfsize, hdesc⟩ := oneCorrupt_runs hs hes (by omega) hbad hside hr
  have hrun := runXcv_take_succ hrun (by omega) (xcvStep_s3gApply (ht.wf hs) hmsg ht.xcvState)
  have hcaller : t.xcvCaller = .port cl a := ht.xcvCaller.trans hcaller
  have hout : t.xcvOuter = none := ht.xcvOuter.trans hout
  have hsent : t.sent.length = s.sent.length + 3 + (if s.cfg.retxSource = .newExchange then 1 else 0) := by
    rw [ht.sent, Nat.add_assoc]
  have hrefresh : (confirmedDesc t r && t.xcvOuter.isNone) = true ↔
      matchesShape s.cfg.tDesc s.cfg.lDescReq s.xcvOperand = true ∧ matchesShape s.cfg.tDesc s.cfg.lDescCfm r = true := by
    rw [confirmedDesc, ht.cfg, ht.vars, hdesc, hout]
    simp [latchDirective, and_comm]
  refine ⟨fun hno => ?_, fun hreq hcfm => ?_⟩
  · rw [if_neg (mt hrefresh.1 hno)] at hrun
    have hrun := runXcv_take_succ hrun (by omega) (xcvStep_done_of_port (ht.wf hs) hmsg rfl hcaller)
    have hidle : (if t.xcvOuter = none then XcvState.idle else .s3gRefresh) = .idle := if_pos hout
    refine ⟨_, runXcv_of_take hrun hidle, hidle, congrArg _ ht.answers, ht.transmissionErrors, hsent, ht.linkOwner, ?_, ?_⟩
    · exact (applyLinkParams_speedSclk t r).trans (by rw [ht.cfg, ht.vars, ht.speedSclk, hspeed])
    · exact (applyLinkParams_frameSize t r).trans (by rw [ht.cfg, ht.vars, ht.frameSize, hfsize])
  · rw [if_pos (hrefresh.2 ⟨hreq, hcfm⟩)] at hrun
    exact ⟨n + 1, _, by omega, hrun, rfl, ht.answers, ht.transmissionErrors, hsent, ht.linkOwner, _, rfl, hcaller⟩

end Sys2Proof.Laws

/-! PROOFS. In-band directives (43_inband.md): what a request latches (R252 to R260), what a response confirms (R256 to R263),
and the descriptor refresh of a confirmed update, from its first field to the publication (R262, R360 to R368). -/

namespace Sys2Proof.Laws

open Sys2Proof.Machine

variable {c : Config} {s t : State} {e : Env} {m bytes : List Byte} {o : OuterTxn} {st st' : FetchState} {f : DescField}
  {rest : List DescField} {r : Reply} {d d' : Descriptor}

/-! What a well-formed `Config` says of the directives (R250). -/

/-- No triplet of a request is the triplet of another one. -/
theorem requestTriplets_of_wf (hc : c.wf = true) : c.tSpeed ≠ c.tFsize ∧ c.tSpeed ≠ c.tDesc ∧ c.tFsize ≠ c.tDesc := by
  simp only [Config.wf, Config.directivesOk, Bool.and_eq_true, decide_eq_true_eq] at hc
  obtain ⟨⟨-, ⟨⟨⟨hpairs, -⟩, -⟩, -⟩⟩, -⟩ := hc
  simp only [List.nodup_cons, List.mem_cons, Prod.mk.injEq] at hpairs
  refine ⟨fun h => ?_, fun h => ?_, fun h => ?_⟩ <;> simp [h] at hpairs

theorem seven_le_lDescCfm (hc : c.wf = true) : 7 ≤ c.lDescCfm := by
  simp only [Config.wf, Config.directivesOk, Bool.and_eq_true, decide_eq_true_eq, List.all_eq_true] at hc
  obtain ⟨⟨-, ⟨-, hlens⟩⟩, -⟩ := hc
  exact (hlens c.lDescCfm (by simp)).1

/-- A message carries one triplet, so that it matches the shapes of one. -/
theorem triplet_eq_of_matchesShape {k k' : Triplet} {len len' : Nat} (h : matchesShape k len m = true)
    (h' : matchesShape k' len' m = true) : k = k' := by
  obtain ⟨-, -, hk⟩ := matchesShape_eq_true_iff.1 h
  obtain ⟨-, -, hk'⟩ := matchesShape_eq_true_iff.1 h'
  exact hk.symm.trans hk'

/-! The request side (R252 to R260). -/

theorem acceptSpeed_eq_true_iff {k : Nat} :
    acceptSpeed s k = true ↔ ∃ d, s.visible = some d ∧ s.cfg.speedMinKhz ≤ k ∧ k ≤ d.maxSclkSpeed := by
  unfold acceptSpeed
  cases s.visible <;> simp

theorem acceptFsize_eq_true_iff {n : Nat} :
    acceptFsize s n = true ↔
      ∃ d, s.visible = some d ∧ s.cfg.frameSizeMin ≤ n ∧ n ≤ d.maxFrameSize ∧ n ≤ s.cfg.maximumFrameSize := by
  unfold acceptFsize
  cases s.visible <;> simp [and_assoc]

/-- A pending value is latched exactly when the message has the shape and its value is accepted. -/
theorem ite_latch_eq_some_iff {shape : Bool} {accept : Nat → Bool} {v k : Nat} :
    (if shape && accept v then some v else none) = some k ↔ shape = true ∧ v = k ∧ accept k = true := by
  rw [Option.ite_none_right_eq_some, Bool.and_eq_true, Option.some.injEq]
  constructor
  · rintro ⟨⟨hshape, haccept⟩, rfl⟩
    exact ⟨hshape, rfl, haccept⟩
  · rintro ⟨hshape, rfl, haccept⟩
    exact ⟨⟨hshape, haccept⟩, rfl⟩

theorem latchDirective_speed_eq_some_iff {k : Nat} : (latchDirective s m).pendingSpeedKhz = some k ↔
    matchesShape s.cfg.tSpeed s.cfg.lSpeedReq m = true ∧ be32 m s.cfg.valueOffset = k ∧ acceptSpeed s k = true :=
  ite_latch_eq_some_iff

theorem latchDirective_fsize_eq_some_iff {n : Nat} : (latchDirective s m).pendingFrameSize = some n ↔
    matchesShape s.cfg.tFsize s.cfg.lFsizeReq m = true ∧ be32 m s.cfg.valueOffset = n ∧ acceptFsize s n = true :=
  ite_latch_eq_some_iff

theorem latchDirective_desc :
    (latchDirective s m).pendingDescUpdate = matchesShape s.cfg.tDesc s.cfg.lDescReq m := rfl

theorem shape_of_latched_speed (h : (latchDirective s m).pendingSpeedKhz.isSome = true) :
    matchesShape s.cfg.tSpeed s.cfg.lSpeedReq m = true := by
  obtain ⟨k, hk⟩ := Option.isSome_iff_exists.1 h
  exact (latchDirective_speed_eq_some_iff.1 hk).1

theorem shape_of_latched_fsize (h : (latchDirective s m).pendingFrameSize.isSome = true) :
    matchesShape s.cfg.tFsize s.cfg.lFsizeReq m = true := by
  obtain ⟨n, hn⟩ := Option.isSome_iff_exists.1 h
  exact (latchDirective_fsize_eq_some_iff.1 hn).1

/-- Settles O20: a latched register shows the shape of its directive, and the triplets of two directives differ. -/
theorem latchMatchesRequest : Obligations.LatchMatchesRequest := by
  refine fun s m => ⟨fun k => ?_, fun n => ?_, ?_, rfl, fun hw => ?_⟩
  · rw [latchDirective_speed_eq_some_iff, matchesShape_eq_true_iff, acceptSpeed_eq_true_iff]
    simp only [and_assoc]
  · rw [latchDirective_fsize_eq_some_iff, matchesShape_eq_true_iff, acceptFsize_eq_true_iff]
    simp only [and_assoc]
  · rw [latchDirective_desc, matchesShape_eq_true_iff]
  · obtain ⟨hsf, hsd, hfd⟩ := requestTriplets_of_wf hw
    refine ⟨fun ⟨hspeed, hfsize⟩ => hsf ?_, fun ⟨hspeed, hdesc⟩ => hsd ?_, fun ⟨hfsize, hdesc⟩ => hfd ?_⟩
    · exact triplet_eq_of_matchesShape (shape_of_latched_speed hspeed) (shape_of_latched_fsize hfsize)
    · exact triplet_eq_of_matchesShape (shape_of_latched_speed hspeed) hdesc
    · exact triplet_eq_of_matchesShape (shape_of_latched_fsize hfsize) hdesc

/-! The response side (R256 to R263). -/

/-- A zero-value confirmation decides for the confirmed value. -/
theorem ite_confirmed_of_shape {k : Triplet} {len off x y : Nat} (hmin : 7 ≤ m.length) (hlen : m.length = len)
    (htri : triplet m = k) (hval : be32 m off = 0) :
    (if matchesShape k len m = true ∧ be32 m off = 0 then x else y) = x :=
  if_pos ⟨matchesShape_eq_true_iff.2 ⟨hmin, hlen, htri⟩, hval⟩

/-- A response that is no zero-value confirmation, or with nothing pending, keeps the old value. -/
theorem ite_confirmed_of_other {k : Triplet} {len off x y : Nat} {p : Option Nat}
    (h : m.length < 7 ∨ m.length ≠ len ∨ triplet m ≠ k ∨ be32 m off ≠ 0 ∨ p = none) (hp : p = none → x = y) :
    (if matchesShape k len m = true ∧ be32 m off = 0 then x else y) = y := by
  split
  · next hconf =>
    obtain ⟨hshape, hval⟩ := hconf
    obtain ⟨hmin, hlen, htri⟩ := matchesShape_eq_true_iff.1 hshape
    obtain h | h | h | h | h := h
    · exact absurd hmin (Nat.not_le.2 h)
    · exact absurd hlen h
    · exact absurd htri h
    · exact absurd hval h
    · exact hp h
  · rfl

theorem confirmedDesc_eq_true_iff : confirmedDesc s m = true ↔
    (7 ≤ m.length ∧ m.length = s.cfg.lDescCfm ∧ triplet m = s.cfg.tDesc) ∧ s.vars.pendingDescUpdate = true := by
  rw [confirmedDesc, Bool.and_eq_true, matchesShape_eq_true_iff]

/-- Step 3g without a confirmed descriptor update ends the transaction. -/
theorem xcvStep_s3gApply_of_unconfirmed (hw : s.cfg.wf = true) (hm : primaryHolds s m) (hx : s.xcvState = .s3gApply)
    (hno : ¬ confirmedDesc s m = true) :
    xcvStep s e = .ok { applyLinkParams s m with vars := { s.vars with wait := false }, xcvState := .done } := by
  rw [xcvStep_s3gApply hw hm hx, if_neg]
  rw [Bool.and_eq_true]
  exact fun h => hno h.1

/-- Step 3g of an outer transaction begins the refresh of a confirmed descriptor update. -/
theorem xcvStep_s3gApply_of_confirmed (hw : s.cfg.wf = true) (hm : primaryHolds s m) (hx : s.xcvState = .s3gApply)
    (ho : s.xcvOuter = none) (hconf : confirmedDesc s m = true) :
    xcvStep s e = .ok (beginRefresh (applyLinkParams s m)) := by
  rw [xcvStep_s3gApply hw hm hx, if_pos]
  simp [hconf, ho]

/-- Settles O27: each link parameter is decided by its own confirmation. -/
theorem confirmationsApply : Obligations.ConfirmationsApply := by
  intro s e m hl hm hx hno
  have hdesc : ¬ confirmedDesc s m = true := by
    rw [confirmedDesc_eq_true_iff]
    rintro ⟨⟨-, hlen, htri⟩, hpending⟩
    exact hno ⟨hlen, htri, hpending⟩
  refine ⟨{ applyLinkParams s m with vars := { s.vars with wait := false }, xcvState := .done },
    runs_xcv hl fun rest => xcvStep_s3gApply_of_unconfirmed hl.2 hm hx hdesc, rfl, ?_, fun h => ?_, ?_, fun h => ?_⟩
  · intro k hmin hlen htri hval hp
    rw [applyLinkParams_speedSclk, ite_confirmed_of_shape hmin hlen htri hval, hp]
    rfl
  · rw [applyLinkParams_speedSclk]
    exact ite_confirmed_of_other h fun hp => by rw [hp]; rfl
  · intro n hmin hlen htri hval hp
    rw [applyLinkParams_frameSize, ite_confirmed_of_shape hmin hlen htri hval, hp]
    rfl
  · rw [applyLinkParams_frameSize]
    exact ite_confirmed_of_other h fun hp => by rw [hp]; rfl

/-- The refresh preserves the `rid` of the visible descriptor (R262). -/
theorem refreshRid_of_visible (h : s.visible = some d) : refreshRid s = d.rid := by
  rw [refreshRid, h]

/-- Settles O28: the refresh that begins is the record of `beginRefresh`, whose `rid` the visible descriptor gives. -/
theorem refreshBegins : Obligations.RefreshBegins := by
  intro s e m hl hm hx ho hlen htri hpending
  have hconf : confirmedDesc s m = true :=
    confirmedDesc_eq_true_iff.2 ⟨⟨hlen ▸ seven_le_lDescCfm hl.2, hlen, htri⟩, hpending⟩
  refine ⟨beginRefresh (applyLinkParams s m),
    runs_xcv hl fun rest => xcvStep_s3gApply_of_confirmed hl.2 hm hx ho hconf, rfl, rfl, rfl, rfl, ?_, rfl, rfl, rfl, rfl⟩
  exact ⟨_, rfl, rfl, rfl, rfl, rfl, rfl, rfl, rfl, fun d hd => refreshRid_of_visible hd⟩

/-! What a field's answer does to the fetch (R361 to R366). -/

theorem isChained_eq_true_iff : isChained f = true ↔ f ∈ [DescField.vpId, .vendorName, .productName] := by
  cases f <;> decide

/-- The stability byte, written as the cases of R366. -/
theorem stabilityOf_eq_ite (prior : Stability) (b : Nat) :
    stabilityOf prior b = if b = 1 then .alpha else if b = 2 then .beta else if b = 3 then .stable else prior := by
  unfold stabilityOf
  split <;> simp_all

/-- A fixed field's bytes go where its row of R364 says. -/
theorem storeFixed_of_mem (h : (f, d') ∈ fixedInto c bytes d) (hserial : f = .serial → bytes.length = c.serialSize) :
    storeFixed c f bytes d = some d' := by
  cases f with
  | vpId | vendorName | productName => simp [fixedInto] at h
  | serial =>
    simp only [fixedInto, List.mem_cons, Prod.mk.injEq, reduceCtorEq, false_and, true_and, false_or, List.not_mem_nil,
      or_false] at h
    rw [h]
    exact if_pos (hserial rfl)
  | protoVersion | hwVersion | fwVersion | maxClock | maxFrame | power0 | power1 | power2 | bootloader =>
    simp only [fixedInto, List.mem_cons, Prod.mk.injEq, reduceCtorEq, false_and, true_and, false_or, List.not_mem_nil,
      or_false] at h
    simp only [h, storeFixed, versionOf, stabilityOf_eq_ite]

/-- A chained field has no fixed answer, and a serial code has one size. -/
theorem storeFixed_eq_none (h : f ∈ [DescField.vpId, .vendorName, .productName] ∨
    (f = .serial ∧ bytes.length ≠ c.serialSize)) : storeFixed c f bytes d = none := by
  obtain hchained | ⟨rfl, hsize⟩ := h
  · simp only [List.mem_cons, List.not_mem_nil, or_false] at hchained
    obtain rfl | rfl | rfl := hchained <;> rfl
  · exact if_neg hsize

/-- A chunk goes where its row of R362 says. -/
theorem appendChunk_of_mem (h : (f, d') ∈ chunkInto bytes d) : isChained f = true ∧ appendChunk f bytes d = d' := by
  simp only [chunkInto, List.mem_cons, Prod.mk.injEq, List.not_mem_nil, or_false] at h
  obtain ⟨rfl, rfl⟩ | ⟨rfl, rfl⟩ | ⟨rfl, rfl⟩ := h <;> exact ⟨rfl, rfl⟩

theorem takeField_of_fieldTaken (h : fieldTaken c st f rest r st') : takeField c st f rest r.data = some st' := by
  obtain ⟨-, ⟨bytes, d, hparse, hd, hserial, rfl⟩ | ⟨chain, bytes, d, hparse, hd, hfit, rfl⟩⟩ := h
  · rw [takeField, hparse]
    exact congrArg (Option.map _) (storeFixed_of_mem hd hserial)
  · obtain ⟨hchained, rfl⟩ := appendChunk_of_mem hd
    rw [takeField, hparse]
    refine (if_pos hchained).trans ((if_neg (Nat.not_lt.2 hfit)).trans ?_)
    cases chain <;> rfl

theorem takeField_of_fieldFails (hok : r.status = .ok) (h : fieldFails c st f r) : takeField c st f rest r.data = none := by
  obtain hstatus | hparse | hparse | ⟨bytes, hparse, hform⟩ | ⟨chain, bytes, hparse, hform⟩ := h
  · exact absurd hok hstatus
  · rw [takeField, hparse]
  · rw [takeField, hparse]
  · rw [takeField, hparse]
    exact congrArg (Option.map _) (storeFixed_eq_none hform)
  · rw [takeField, hparse]
    obtain hchained | hlong := hform
    · exact if_neg (mt isChained_eq_true_iff.1 hchained)
    · simp only [if_pos hlong, ite_self]

theorem fetchTake_of_fieldTaken (h : fieldTaken s.cfg st f rest r st') :
    fetchTake s st f rest r = ({ s with xcvReturn := none, fetch := some st' }, .running) := by
  simp only [fetchTake, if_pos h.1, takeField_of_fieldTaken h]

theorem fetchTake_of_fieldFails (h : fieldFails s.cfg st f r) :
    fetchTake s st f rest r =
      ({ s with xcvReturn := none, descriptorFailed := bump s.cfg s.descriptorFailed, fetch := none }, .failed) := by
  by_cases hok : r.status = .ok
  · simp only [fetchTake, if_pos hok, takeField_of_fieldFails hok h, fetchFail]
  · simp only [fetchTake, if_neg hok, fetchFail]

/-! The `rid` of a publication (R368). -/

theorem drawRid_of_candidate {a p : BitVec 32} (h0 : a ≠ 0) (hp : a ≠ p) : drawRid a p = a := if_pos ⟨h0, hp⟩

theorem drawRid_ne (a p : BitVec 32) : drawRid a p ≠ 0 ∧ drawRid a p ≠ p := by
  unfold drawRid
  split
  · next h => exact h
  · split
    · next h => exact ⟨by decide, by rw [h]; decide⟩
    · next h => exact ⟨by decide, Ne.symm h⟩

/-! One step of the fetch in progress, by where it stands (R360, R361). -/

theorem fetchStep_of_complete (hf : s.fetch = some st) (ht : st.todo = []) : fetchStep s e = .ok (fetchPublish s e st) := by
  simp only [fetchStep, hf, ht]

theorem fetchStep_of_waiting (hf : s.fetch = some st) (ht : st.todo = f :: rest) (ha : st.awaiting = true)
    (hr : s.xcvReturn = none) : fetchStep s e = .ok (s, .running) := by
  simp only [fetchStep, hf, ht, if_pos ha, hr]

theorem fetchStep_of_result (hf : s.fetch = some st) (ht : st.todo = f :: rest) (ha : st.awaiting = true)
    (hr : s.xcvReturn = some r) : fetchStep s e = .ok (fetchTake s st f rest r) := by
  simp only [fetchStep, hf, ht, if_pos ha, hr]

/-- A refresh asks for the current field under the outer transaction's ownership of the link (R191, R262). -/
theorem fetchStep_of_unasked (hf : s.fetch = some st) (ht : st.todo = f :: rest) (ha : st.awaiting = false)
    (hx : s.xcvState = .s3gRefresh) (ho : s.xcvOuter = some o) :
    fetchStep s e = .ok
      ({ s.startXchg .fetcher (descReq s.cfg f st.chunk) with fetch := some { st with awaiting := true } }, .running) := by
  have hfree : s.sequencerFree = true := by simp [State.sequencerFree, ho, hx]
  have huse : fetcherMayUseLink s = true := by simp [fetcherMayUseLink, ho]
  have hawait : ¬ st.awaiting = true := by simp [ha]
  have hreq : require (fetcherMayUseLink s = true) .wrongConnState = .ok () := if_pos huse
  have hissue : fetchStep s e = fetchIssue s st f := by simp only [fetchStep, hf, ht, if_neg hawait, if_pos hfree]
  exact hissue.trans (bind_of_ok hreq _)

/-! The refresh (R262): the outer transaction waits while the fetch runs, and is back when it has ended. -/

theorem endRefresh_of_outer (ho : s.xcvOuter = some o) :
    endRefresh s = { s with xcvOuter := none, xcvCaller := o.caller, vars := o.vars, rxPrimary := o.rxPrimary } := by
  rw [endRefresh, ho]

theorem xcvStep_s3gRefresh_of_running (hx : s.xcvState = .s3gRefresh) (h : fetchStep s e = .ok (t, .running)) :
    xcvStep s e = .ok t := by
  simp only [xcvStep, hx]
  exact bind_of_ok h _

theorem xcvStep_s3gRefresh_of_ok (hx : s.xcvState = .s3gRefresh) (h : fetchStep s e = .ok (t, .ok))
    (ho : t.xcvOuter = some o) :
    xcvStep s e = .ok { t with
      xcvOuter := none
      xcvCaller := o.caller
      vars := { o.vars with wait := false }
      rxPrimary := o.rxPrimary
      xcvState := .done } := by
  simp only [xcvStep, hx]
  exact (bind_of_ok h _).trans (by rw [endRefresh_of_outer ho]; rfl)

theorem xcvStep_s3gRefresh_of_failed (hx : s.xcvState = .s3gRefresh) (h : fetchStep s e = .ok (t, .failed))
    (ho : t.xcvOuter = some o) :
    xcvStep s e = .ok { t with
      xcvOuter := none
      xcvCaller := o.caller
      vars := o.vars
      rxPrimary := o.rxPrimary
      xcvState := .fail
      xcvErr := .descriptorRefreshFailed } := by
  simp only [xcvStep, hx]
  exact (bind_of_ok h _).trans (by rw [endRefresh_of_outer ho]; rfl)

/-- The fetch that has every field publishes its scratch record, and the outer transaction is done (R262, R367). -/
theorem xcvStep_s3gRefresh_of_complete {rid : BitVec 32} (hx : s.xcvState = .s3gRefresh) (ho : s.xcvOuter = some o)
    (hf : s.fetch = some st) (ht : st.todo = [])
    (hrid : (if st.preserveRid = 0 then drawRid e.rid st.prevRid else st.preserveRid) = rid) :
    xcvStep s e = .ok { s with
      descCur := { st.scratch with rid := rid, valid := true }
      fetch := none
      xcvOuter := none
      xcvCaller := o.caller
      vars := { o.vars with wait := false }
      rxPrimary := o.rxPrimary
      xcvState := .done } := by
  subst hrid
  exact xcvStep_s3gRefresh_of_ok hx (fetchStep_of_complete hf ht) ho

theorem xcvStep_s3gRefresh_of_fieldTaken (hx : s.xcvState = .s3gRefresh) (hf : s.fetch = some st)
    (ht : st.todo = f :: rest) (ha : st.awaiting = true) (hr : s.xcvReturn = some r)
    (htaken : fieldTaken s.cfg st f rest r st') :
    xcvStep s e = .ok { s with xcvReturn := none, fetch := some st' } :=
  xcvStep_s3gRefresh_of_running hx <|
    (fetchStep_of_result hf ht ha hr).trans (congrArg Except.ok (fetchTake_of_fieldTaken htaken))

/-- A failed field fails the outer transaction (R262, R365). -/
theorem xcvStep_s3gRefresh_of_fieldFails (hx : s.xcvState = .s3gRefresh) (ho : s.xcvOuter = some o)
    (hf : s.fetch = some st) (ht : st.todo = f :: rest) (ha : st.awaiting = true) (hr : s.xcvReturn = some r)
    (hfails : fieldFails s.cfg st f r) :
    xcvStep s e = .ok { s with
      xcvReturn := none
      descriptorFailed := bump s.cfg s.descriptorFailed
      fetch := none
      xcvOuter := none
      xcvCaller := o.caller
      vars := o.vars
      rxPrimary := o.rxPrimary
      xcvState := .fail
      xcvErr := .descriptorRefreshFailed } :=
  xcvStep_s3gRefresh_of_failed hx
    ((fetchStep_of_result hf ht ha hr).trans (congrArg Except.ok (fetchTake_of_fieldFails hfails))) ho

/-- Settles O29: one case for each place where the fetch can stand. -/
theorem refreshEnds : Obligations.RefreshEnds := by
  refine fun s e o st hl hx ho hf => ⟨fun ht hrid => ?_, fun ht hrid => ?_, fun f rest ht => ⟨fun ha => ?_, fun ha hr => ?_,
    fun r ha hr => ⟨fun st' htaken => ?_, fun hfails => ?_⟩⟩⟩
  · exact runs_xcv hl fun rest => xcvStep_s3gRefresh_of_complete hx ho hf ht (if_neg hrid)
  · obtain ⟨hzero, hprev⟩ := drawRid_ne e.rid st.prevRid
    exact ⟨drawRid e.rid st.prevRid, hzero, hprev, drawRid_of_candidate,
      runs_xcv hl fun rest => xcvStep_s3gRefresh_of_complete hx ho hf ht (if_pos hrid)⟩
  · exact runs_xcv hl fun inputs => xcvStep_s3gRefresh_of_running hx (fetchStep_of_unasked hf ht ha hx ho)
  · exact runs_xcv hl fun inputs => xcvStep_s3gRefresh_of_running hx (fetchStep_of_waiting hf ht ha hr)
  · exact runs_xcv hl fun inputs => xcvStep_s3gRefresh_of_fieldTaken hx hf ht ha hr htaken
  · exact runs_xcv hl fun inputs => xcvStep_s3gRefresh_of_fieldFails hx ho hf ht ha hr hfails

end Sys2Proof.Laws

/-! PROOFS. The link arbiter (44_arbiter.md): what its operations and the turns of a waiting requester do, each as an equation
(R284 to R289), what they refuse (R295), and everything that one step of a slot can do to the owner of the link (R283, R290). -/

namespace Sys2Proof.Laws

open Sys2Proof.Machine

variable {s t u : State} {e : Env} {a : Nat}

/-! What the tests of the arbiter say. -/

theorem linkFree_eq_true_iff : s.linkFree = true ↔ s.linkOwner = .none ∧ s.fgIntent = 0 := by simp [State.linkFree]

theorem linkFree_eq_false (h : s.linkOwner ≠ .none ∨ s.fgIntent ≠ 0) : s.linkFree = false := by
  rw [← Bool.not_eq_true, linkFree_eq_true_iff]
  tauto

theorem fgWaits_eq_true_iff : s.fgWaits a = true ↔ ∃ w ∈ s.fgWaiters, w.agent = a := by simp [State.fgWaits]

theorem waiterGone_eq_true (h : s.connState ≠ .connected ∨ (⟨a, true⟩ : FgWaiter) ∈ s.fgWaiters) :
    waiterGone s a = true := by
  simp only [waiterGone, Bool.or_eq_true, decide_eq_true_eq, List.any_eq_true, Bool.and_eq_true]
  exact h.imp_right fun hw => ⟨_, hw, rfl, rfl⟩

theorem waiterGone_eq_false (hc : s.connState = .connected) (h : ∀ w ∈ s.fgWaiters, w.agent = a → w.gone = false) :
    waiterGone s a = false := by
  simpa [waiterGone, hc] using h

/-! The admission of a requester (R284, R286). -/

theorem arbAcqFg_admits (hc : s.portCls = .fg) (ho : ¬ (s.linkOwner = .fg ∧ s.fgHolder = s.portAgent))
    (hw : ∀ w ∈ s.fgWaiters, w.agent ≠ s.portAgent) (hr : s.connState = .connected → s.registered = true) (nb : Bool) :
    exec (.arbAcqFg nb) s = .next (admitFg nb s) := by
  have hreg : ¬ (s.connState = .connected ∧ s.registered = false) := fun ⟨hn, hf⟩ => by simp [hr hn] at hf
  simp [exec, execArbAcqFg, hc, ho, fgWaits_eq_false hw, hreg]

theorem admitFg_of_not_connected (hn : s.connState ≠ .connected) (nb : Bool) : admitFg nb s = s.raise .deviceGone := if_pos hn

theorem admitFg_of_free (hn : s.connState = .connected) (hf : s.linkFree = true) (nb : Bool) :
    admitFg nb s = { s with fgIntent := s.fgIntent + 1, linkOwner := .fg, fgHolder := s.portAgent }.answer .ok [] := by
  simp [admitFg, hn, hf]

theorem admitFg_of_taken (hn : s.connState = .connected) (hf : s.linkFree = false) (nb : Bool) :
    admitFg nb s = if nb then s.raise .busy
      else { s with fgIntent := s.fgIntent + 1, fgWaiters := s.fgWaiters ++ [⟨s.portAgent, false⟩] } := by
  simp [admitFg, hn, hf]

/-- Settles O36: the requester is admitted, and the admission asks for the connection, the link and `nb` in this order. -/
theorem arbAcqFgAdmits : Obligations.ArbAcqFgAdmits := by
  intro s nb hc ho hw
  have hadmits := fun hr => arbAcqFg_admits hc ho hw hr nb
  refine ⟨fun hn => ?_, fun hn hr hnone hzero => ?_, fun hn hr htaken hnb => ?_, fun hn hr htaken hnb => ?_⟩
  · rw [hadmits fun h => absurd h hn, admitFg_of_not_connected hn, raise_of_class hc]
  · rw [hadmits fun _ => hr, admitFg_of_free hn (linkFree_eq_true_iff.2 ⟨hnone, hzero⟩), State.answer, State.deliver, hc]
  · rw [hadmits fun _ => hr, admitFg_of_taken hn (linkFree_eq_false htaken), if_pos hnb, raise_of_class hc]
  · rw [hadmits fun _ => hr, admitFg_of_taken hn (linkFree_eq_false htaken), if_neg (by simp [hnb])]

/-! The releases and the poller's try (R287 to R289, R295). -/

theorem answer_of_class {c : Cls} (hc : s.portCls = c) (x : Status) (d : List Byte) :
    s.answer x d = { s with answers := ⟨c, s.portAgent, x, d⟩ :: s.answers } := by
  subst hc
  rfl

theorem arbRelFg_of_owner (hc : s.portCls = .fg) (ho : s.linkOwner = .fg) (ha : s.fgHolder = s.portAgent)
    (hx : s.xcvState = .idle) : exec .arbRelFg s = .next ((releaseFg s).answer .ok []) := by
  simp [exec, execArbRelFg, hc, ho, ha, hx]

theorem releaseBg_of_owner (ho : s.linkOwner = .bg) (hx : s.xcvState = .idle) :
    releaseBg s = .ok { s with linkOwner := .none } := by
  simp [releaseBg, require, ho, hx, bind, Except.bind, pure, Except.pure]

theorem arbRelBg_of_owner (hc : s.portCls = .bg) (hn : s.connState = .connected) (ho : s.linkOwner = .bg)
    (hx : s.xcvState = .idle) : exec .arbRelBg s = .next ({ s with linkOwner := .none }.answer .ok []) := by
  simp [exec, execArbRelBg, hc, hn, releaseBg_of_owner ho hx, Except.map, outcome]

theorem acquireBg_of_free (h : s.linkFree = true) : acquireBg s = ({ s with linkOwner := .bg }, .ok) := if_pos h

theorem acquireBg_of_taken (h : s.linkFree = false) : acquireBg s = (s, .busy) := if_neg (by simp [h])

theorem arbAcqBg_of_connected (hc : s.portCls = .bg) (hn : s.connState = .connected) :
    exec .arbAcqBg s = .next ((acquireBg s).1.answer (acquireBg s).2 []) := by
  simp [exec, execArbAcqBg, hc, hn]

/-- Settles O37: the release is `releaseFg`, and its answer goes to the foreground. -/
theorem arbRelFgReleases : Obligations.ArbRelFgReleases := by
  intro s hc ho ha hx
  rw [arbRelFg_of_owner hc ho ha hx, answer_of_class (s := releaseFg s) hc]
  rfl

/-- Settles O38: whether the link is free decides the try. -/
theorem pollerAcquiresAndReleases : Obligations.PollerAcquiresAndReleases := by
  intro s hc hn
  refine ⟨fun ho hi => ?_, fun htaken => ?_, fun ho hx => ?_⟩
  · rw [arbAcqBg_of_connected hc hn, acquireBg_of_free (linkFree_eq_true_iff.2 ⟨ho, hi⟩),
      answer_of_class (s := { s with linkOwner := .bg }) hc]
  · rw [arbAcqBg_of_connected hc hn, acquireBg_of_taken (linkFree_eq_false htaken), answer_of_class hc]
  · rw [arbRelBg_of_owner hc hn ho hx, answer_of_class (s := { s with linkOwner := .none }) hc]

/-! What the arbiter refuses (R295). -/

/-- A release by the foreground is refused, unless it is the owner's and the sequencer is idle. -/
theorem arbRelFg_refused (h : s.xcvState = .idle → ¬ (s.portCls = .fg ∧ s.linkOwner = .fg ∧ s.fgHolder = s.portAgent)) :
    ∃ r, exec .arbRelFg s = .refused r := by
  by_cases hc : s.portCls = .fg
  · by_cases ho : s.linkOwner = .fg ∧ s.fgHolder = s.portAgent
    · have hx : s.xcvState ≠ .idle := fun hx => h hx ⟨hc, ho⟩
      exact ⟨.sequencerBusy, by simp [exec, execArbRelFg, hc, ho, hx]⟩
    · exact ⟨.linkNotHeld, by simp [exec, execArbRelFg, hc, ho]⟩
  · exact ⟨.wrongClass, arbRelFg_of_class hc⟩

/-- Past the gates of the class and the connection state, the port refuses what `releaseBg` does. -/
theorem arbRelBg_of_releaseBg_error {r : Refusal} (hc : s.portCls = .bg)
    (hn : s.connState = .connected ∨ s.connState = .failed) (h : releaseBg s = .error (.refuse r)) :
    exec .arbRelBg s = .refused r := by
  have hgate : ¬ (s.connState ≠ .connected ∧ s.connState ≠ .failed) := by tauto
  simp [exec, execArbRelBg, hc, hgate, h, Except.map, outcome]

/-- A release by the poller is refused in every connection state, unless it owns the link and the sequencer is idle. -/
theorem arbRelBg_refused (h : s.linkOwner = .bg → s.xcvState ≠ .idle) : ∃ r, exec .arbRelBg s = .refused r := by
  by_cases hc : s.portCls = .bg
  · by_cases hn : s.connState = .connected ∨ s.connState = .failed
    · by_cases ho : s.linkOwner = .bg
      · exact ⟨.sequencerBusy, arbRelBg_of_releaseBg_error hc hn
          (by simp [releaseBg, require, ho, h ho, bind, Except.bind])⟩
      · exact ⟨.linkNotHeld, arbRelBg_of_releaseBg_error hc hn (by simp [releaseBg, require, ho, bind, Except.bind])⟩
    · exact ⟨.wrongConnState, arbRelBg_of_connState (fun hx => hn (.inl hx)) (fun hx => hn (.inr hx)) hc⟩
  · exact ⟨.wrongClass, arbRelBg_of_class hc⟩

theorem arbAcqFg_refused_of_owner (ho : s.linkOwner = .fg) (ha : s.fgHolder = s.portAgent) (nb : Bool) :
    ∃ r, exec (.arbAcqFg nb) s = .refused r := by
  by_cases hc : s.portCls = .fg
  · exact ⟨.alreadyOwner, by simp [exec, execArbAcqFg, hc, ho, ha]⟩
  · exact ⟨.wrongClass, arbAcqFg_of_class hc nb⟩

/-- Settles O41: a release is answered to an owner with the sequencer idle only, an acquire never to the current owner. -/
theorem arbMisuseRefused : Obligations.ArbMisuseRefused := fun _ =>
  ⟨fun hnot => arbRelFg_refused fun _ => hnot, fun ho => arbRelBg_refused fun h => absurd h ho,
    fun nb ho ha => arbAcqFg_refused_of_owner ho ha nb,
    fun hx => ⟨arbRelFg_refused fun h => absurd h hx, arbRelBg_refused fun _ => hx⟩, fun hc => ⟨_, arbAcqBg_of_class hc⟩⟩

/-! The turns of a waiting requester (R285, R414 (d)). -/

theorem fgTurn_of_owned (hg : waiterGone s a = false) (ho : s.linkOwner ≠ .none) : fgTurn s a = s := by
  simp [fgTurn, hg, ho]

section Waits

variable (hw : s.fgWaits a = true)

include hw

theorem fgTurn_of_gone (hg : waiterGone s a = true) : fgTurn s a = leaveFg s a .deviceGone := by simp [fgTurn, hw, hg]

theorem fgTurn_of_unowned (hg : waiterGone s a = false) (ho : s.linkOwner = .none) : fgTurn s a = grantFg s a := by
  simp [fgTurn, hw, hg, ho]

theorem fgTimeout_of_gone (hg : waiterGone s a = true) : fgTimeout s a = leaveFg s a .deviceGone := by
  simp [fgTimeout, hw, hg]

theorem fgTimeout_of_waiting (hg : waiterGone s a = false) : fgTimeout s a = leaveFg s a .busy := by
  simp [fgTimeout, hw, hg]

theorem fgInterrupt_of_waiting : fgInterrupt s a = leaveFg s a .interrupted := if_pos hw

end Waits

/-- A step on an input that is no command: what the input does, whatever inputs are still to come. -/
theorem runs_of_applyInput {x : Input} (hl : live s) (hx : ∀ c, x ≠ .command c)
    (h : ∀ rest, applyInput { s with inputs := rest } x = .ok { t with inputs := rest }) : Runs s x t := fun rest => by
  obtain ⟨hd, hw⟩ := hl
  have hstep : step { s with inputs := x :: rest } = outcome (applyInput { s with inputs := rest } x) := by
    cases x with
    | command c => exact absurd rfl (hx c)
    | _ => simp [step, hd, hw]
  rw [hstep, h rest]
  rfl

/-- Settles O39: the requester waits, and whether its connection has ended decides its turn and its bounded wait. -/
theorem waiterLeaves : Obligations.WaiterLeaves := by
  refine fun s a hl => ⟨fun hmem hfresh => ?_, fun hex => ?_⟩
  · have hw : s.fgWaits a = true := fgWaits_eq_true_iff.2 ⟨_, hmem, rfl⟩
    have hgone (hc : s.connState = .connected) : waiterGone s a = false := waiterGone_eq_false hc hfresh
    refine ⟨fun hc ho => ?_, fun hc ho => ?_, fun hc => ?_⟩
    · exact runs_of_applyInput hl nofun fun rest =>
        congrArg Except.ok (fgTurn_of_unowned (s := { s with inputs := rest }) hw (hgone hc) ho)
    · exact runs_of_applyInput hl nofun fun rest =>
        congrArg Except.ok (fgTurn_of_owned (s := { s with inputs := rest }) (hgone hc) ho)
    · exact runs_of_applyInput hl nofun fun rest =>
        congrArg Except.ok (fgTimeout_of_waiting (s := { s with inputs := rest }) hw (hgone hc))
  · have hw : s.fgWaits a = true := fgWaits_eq_true_iff.2 hex
    refine ⟨fun hend x hx => ?_, ?_⟩
    · have hgone : waiterGone s a = true := waiterGone_eq_true hend
      rcases hx with rfl | rfl
      · exact runs_of_applyInput hl nofun fun rest =>
          congrArg Except.ok (fgTurn_of_gone (s := { s with inputs := rest }) hw hgone)
      · exact runs_of_applyInput hl nofun fun rest =>
          congrArg Except.ok (fgTimeout_of_gone (s := { s with inputs := rest }) hw hgone)
    · exact runs_of_applyInput hl nofun fun rest =>
        congrArg Except.ok (fgInterrupt_of_waiting (s := { s with inputs := rest }) hw)

/-! Everything a step can do to the owner of the link (R283, R290): the operations of the arbiter and the turns of its waiting
requesters change it, the rest leave it. -/

/-- The owner of the link over one step: the same, a requester that was granted a link without owner, the poller that took one
without foreground intent, or none once the sequencer is idle. -/
inductive OwnerStep (s t : State) : Prop
  | stands (h : t.linkOwner = s.linkOwner)
  | granted (ho : s.linkOwner = .none) (h : t.linkOwner = .fg)
  | polled (ho : s.linkOwner = .none) (hi : s.fgIntent = 0) (h : t.linkOwner = .bg)
  | released (hx : s.xcvState = .idle) (h : t.linkOwner = .none)

namespace OwnerStep

/-- What the step begins in matters by its owner, its intents and its sequencer only. -/
theorem congr_left (h : OwnerStep u t) (ho : u.linkOwner = s.linkOwner) (hi : u.fgIntent = s.fgIntent)
    (hx : u.xcvState = s.xcvState) : OwnerStep s t := by
  cases h with
  | stands h => exact .stands (h.trans ho)
  | granted hn h => exact .granted (ho.symm.trans hn) h
  | polled hn hz h => exact .polled (ho.symm.trans hn) (hi.symm.trans hz) h
  | released hidle h => exact .released (hx.symm.trans hidle) h

/-- What the step ends in matters by its owner only. -/
theorem congr_right (h : OwnerStep s t) (hu : u.linkOwner = t.linkOwner) : OwnerStep s u := by
  cases h with
  | stands h => exact .stands (hu.trans h)
  | granted ho h => exact .granted ho (hu.trans h)
  | polled ho hi h => exact .polled ho hi (hu.trans h)
  | released hx h => exact .released hx (hu.trans h)

/-- What R283 (c) and R290 say of the poller. -/
theorem poller (h : OwnerStep s t) :
    (t.linkOwner = .bg → s.linkOwner = .bg ∨ (s.linkOwner = .none ∧ s.fgIntent = 0)) ∧
      (s.linkOwner = .bg → s.xcvState ≠ .idle → t.linkOwner = .bg) := by
  cases h with
  | stands h => exact ⟨fun hb => .inl (h.symm.trans hb), fun hb _ => h.trans hb⟩
  | granted ho h => simp [ho, h]
  | polled ho hi h => simp [ho, hi, h]
  | released hx h => simp [hx, h]

end OwnerStep

/-! The arbiter's own steps. -/

theorem ownerStep_admitFg (nb : Bool) (s : State) : OwnerStep s (admitFg nb s) := by
  unfold admitFg
  split
  · exact .stands rfl
  · split
    · next hfree => exact .granted (linkFree_eq_true_iff.1 hfree).1 rfl
    · split <;> exact .stands rfl

theorem ownerStep_acquireBg (s : State) : OwnerStep s (acquireBg s).1 := by
  unfold acquireBg
  split
  · next hfree =>
    obtain ⟨ho, hi⟩ := linkFree_eq_true_iff.1 hfree
    exact .polled ho hi rfl
  · exact .stands rfl

theorem ownerStep_releaseBg (h : releaseBg s = .ok t) : OwnerStep s t := by
  obtain ⟨-, hx, rfl⟩ := releaseBg_ok h
  exact .released hx rfl

theorem ownerStep_fgTurn (s : State) (a : Nat) : OwnerStep s (fgTurn s a) := by
  unfold fgTurn
  split
  · split
    · exact .stands rfl
    · split
      · next ho => exact .granted ho rfl
      · exact .stands rfl
  · exact .stands rfl

theorem fgTimeout_linkOwner (s : State) (a : Nat) : (fgTimeout s a).linkOwner = s.linkOwner := by
  unfold fgTimeout
  split <;> rfl

theorem fgInterrupt_linkOwner (s : State) (a : Nat) : (fgInterrupt s a).linkOwner = s.linkOwner := by
  unfold fgInterrupt
  split <;> rfl

/-! The mailbox and the consumers. -/

theorem postMailbox_linkOwner {d : List Byte} {r : State × Status} (h : postMailbox s d = .ok r) :
    r.1.linkOwner = s.linkOwner := by
  rcases postMailbox_ok h with ⟨-, rfl⟩ | ⟨-, rfl⟩ | ⟨-, -, -, rfl⟩ <;> rfl

theorem takeEnter_linkOwner (nb : Bool) (s : State) : (takeEnter nb s).linkOwner = s.linkOwner := by
  unfold takeEnter
  repeat' split
  all_goals rfl

theorem consumerInterrupt_linkOwner (s : State) (a : Nat) : (consumerInterrupt s a).linkOwner = s.linkOwner := by
  unfold consumerInterrupt
  repeat' split
  all_goals rfl

/-! The command port. -/

theorem next_of_guard {p : Prop} [Decidable p] {r : Refusal} {o : Host.Outcome State Fault Refusal} :
    (if p then .refused r else o) = .next t ↔ ¬ p ∧ o = .next t := by
  split <;> simp_all

theorem ownerStep_arbAcqFg {nb : Bool} (h : execArbAcqFg nb s = .next t) : OwnerStep s t := by
  obtain ⟨-, h⟩ := next_of_guard.1 h
  obtain ⟨-, h⟩ := next_of_guard.1 h
  obtain ⟨-, h⟩ := next_of_guard.1 h
  obtain ⟨-, h⟩ := next_of_guard.1 h
  cases h
  exact ownerStep_admitFg nb s

theorem ownerStep_arbRelFg (h : execArbRelFg s = .next t) : OwnerStep s t := by
  obtain ⟨-, h⟩ := next_of_guard.1 h
  obtain ⟨-, h⟩ := next_of_guard.1 h
  obtain ⟨hidle, h⟩ := next_of_guard.1 h
  cases h
  exact .released (not_not.1 hidle) rfl

theorem ownerStep_arbAcqBg (h : execArbAcqBg s = .next t) : OwnerStep s t := by
  obtain ⟨-, h⟩ := next_of_guard.1 h
  split at h
  · cases h
    exact .stands rfl
  · obtain ⟨-, h⟩ := next_of_guard.1 h
    cases h
    exact (ownerStep_acquireBg s).congr_right rfl

theorem ownerStep_arbRelBg (h : execArbRelBg s = .next t) : OwnerStep s t := by
  obtain ⟨-, h⟩ := next_of_guard.1 h
  obtain ⟨-, h⟩ := next_of_guard.1 h
  obtain ⟨u, hu, rfl⟩ := map_ok.1 (outcome_next.1 h)
  split
  · exact .stands rfl
  · exact (ownerStep_releaseBg hu).congr_right rfl

theorem execFrmEnc_linkOwner (h : execFrmEnc s = .next t) : t.linkOwner = s.linkOwner := by
  unfold execFrmEnc at h
  split at h
  · split at h
    · cases h; rfl
    · obtain ⟨u, hu, rfl⟩ := map_ok.1 (outcome_next.1 h)
      exact (storeFrame_outside hu).linkOwner
  · cases h

theorem execFrmDec_linkOwner (h : execFrmDec s = .next t) : t.linkOwner = s.linkOwner := by
  unfold execFrmDec at h
  split at h
  · split at h <;> cases h <;> rfl
  · cases h

theorem execXcvXchg_linkOwner (h : execXcvXchg s = .next t) : t.linkOwner = s.linkOwner := by
  unfold execXcvXchg at h
  split at h
  · cases h
  · obtain ⟨-, h⟩ := next_of_guard.1 h
    obtain ⟨-, h⟩ := next_of_guard.1 h
    split at h <;> cases h <;> rfl

theorem execMbxPost_linkOwner (h : execMbxPost s = .next t) : t.linkOwner = s.linkOwner := by
  obtain ⟨-, h⟩ := next_of_guard.1 h
  obtain ⟨-, h⟩ := next_of_guard.1 h
  split at h
  · split at h
    · cases h; rfl
    · obtain ⟨r, hr, rfl⟩ := map_ok.1 (outcome_next.1 h)
      exact postMailbox_linkOwner hr
  · cases h

theorem execMbxTake_linkOwner {nb : Bool} (h : execMbxTake nb s = .next t) : t.linkOwner = s.linkOwner := by
  obtain ⟨-, h⟩ := next_of_guard.1 h
  obtain ⟨-, h⟩ := next_of_guard.1 h
  obtain ⟨-, h⟩ := next_of_guard.1 h
  obtain ⟨-, h⟩ := next_of_guard.1 h
  split at h <;> cases h
  · rfl
  · exact takeEnter_linkOwner nb s

/-- An operation outside the arbiter leaves the owner. -/
theorem ownerStep_exec {i : Instr} (h : exec i s = .next t) : OwnerStep s t := by
  cases i with
  | arbAcqFg nb => exact ownerStep_arbAcqFg h
  | arbRelFg => exact ownerStep_arbRelFg h
  | arbAcqBg => exact ownerStep_arbAcqBg h
  | arbRelBg => exact ownerStep_arbRelBg h
  | frmEnc => exact .stands (execFrmEnc_linkOwner h)
  | frmDec => exact .stands (execFrmDec_linkOwner h)
  | xcvXchg => exact .stands (execXcvXchg_linkOwner h)
  | mbxPost => exact .stands (execMbxPost_linkOwner h)
  | mbxTake nb => exact .stands (execMbxTake_linkOwner h)
  | crcClr | statRd k => cases h; exact .stands rfl
  | crcByte _ | crcRd | frmVal | mbxClr | mbxGone | lnkRst | statClr =>
    simp only [exec, execCrcByte, execCrcRd, execFrmVal, execMbxClr, execMbxGone, execLnkRst, execStatClr] at h
    repeat' split at h
    all_goals cases h
    all_goals exact .stands rfl

/-! The worker. Its tries and its releases are the poller's (R343); its other positions leave the owner. -/

theorem beginStop_linkOwner (s : State) : (beginStop s).linkOwner = s.linkOwner := by rw [beginStop_eq]

theorem abandonConnect_linkOwner (s : State) : (abandonConnect s).linkOwner = s.linkOwner := by rw [abandonConnect_eq]

theorem clearStatsByPolicy_linkOwner (s : State) : (clearStatsByPolicy s).linkOwner = s.linkOwner := by
  unfold clearStatsByPolicy
  split <;> rfl

theorem allocFailure_linkOwner (s : State) : (allocFailure s).linkOwner = s.linkOwner := by
  rcases allocFailure_cases s with ⟨-, h⟩ | ⟨-, h⟩ <;> exact (congrArg State.linkOwner h :)

theorem workerDebounce_linkOwner (s : State) (e : Env) (seen : Nat) :
    (workerDebounce s e seen).linkOwner = s.linkOwner := by
  unfold workerDebounce
  split
  · exact beginStop_linkOwner s
  · repeat' split
    all_goals rfl

theorem workerConnReset_linkOwner (s : State) : (workerConnReset s).linkOwner = s.linkOwner := by
  unfold workerConnReset
  split
  · exact beginStop_linkOwner s
  · split <;> rfl

theorem workerConnMailbox_linkOwner (s : State) : (workerConnMailbox s).linkOwner = s.linkOwner := by
  unfold workerConnMailbox
  split
  · exact beginStop_linkOwner s
  · split <;> rfl

theorem workerConnFetching_linkOwner (h : workerConnFetching s e = .ok t) : t.linkOwner = s.linkOwner := by
  unfold workerConnFetching at h
  split at h
  · cases h; exact abandonConnect_linkOwner s
  · obtain ⟨r, hr, h⟩ := bind_ok.1 h
    have hfetch := (fetchStep_outside hr).linkOwner
    split at h <;> cases h <;> exact hfetch

theorem workerConnRegister_linkOwner (s : State) (e : Env) : (workerConnRegister s e).linkOwner = s.linkOwner := by
  unfold workerConnRegister
  split <;> rfl

theorem workerProbe_linkOwner {tries : Nat} (h : workerProbe s tries = .ok t) : t.linkOwner = s.linkOwner := by
  unfold workerProbe at h
  split at h
  · cases h; exact abandonConnect_linkOwner s
  · obtain ⟨_, -, h⟩ := bind_ok.1 h
    obtain ⟨_, -, h⟩ := bind_ok.1 h
    obtain ⟨_, -, h⟩ := bind_ok.1 h
    cases h; rfl

theorem workerProbing_linkOwner (s : State) (tries : Nat) : (workerProbing s tries).linkOwner = s.linkOwner := by
  unfold workerProbing
  split
  · rfl
  · split
    · exact abandonConnect_linkOwner s
    · dsimp only
      repeat' split
      all_goals rfl

theorem workerConnDownStat_linkOwner (s : State) : (workerConnDownStat s).linkOwner = s.linkOwner := by
  unfold workerConnDownStat
  split
  · exact abandonConnect_linkOwner s
  · exact clearStatsByPolicy_linkOwner s

theorem workerPollWait_linkOwner (s : State) (e : Env) : (workerPollWait s e).linkOwner = s.linkOwner := by
  have hwait := (readyWait_outside s s.cfg.tPoll e.ready).linkOwner
  unfold workerPollWait
  dsimp only
  split
  · exact (beginStop_linkOwner _).trans hwait
  · split <;> exact hwait

theorem workerPollTest_linkOwner (s : State) : (workerPollTest s).linkOwner = s.linkOwner := by
  unfold workerPollTest
  split <;> rfl

theorem ownerStep_workerPollAcquire (s : State) : OwnerStep s (workerPollAcquire s) := by
  have hacq := ownerStep_acquireBg s
  unfold workerPollAcquire
  split
  · exact .stands (beginStop_linkOwner s)
  · split <;> next heq => rw [heq] at hacq; exact hacq.congr_right rfl

theorem workerPollExchange_linkOwner (h : workerPollExchange s = .ok t) : t.linkOwner = s.linkOwner := by
  unfold workerPollExchange at h
  obtain ⟨_, -, h⟩ := bind_ok.1 h
  obtain ⟨_, -, h⟩ := bind_ok.1 h
  obtain ⟨_, -, h⟩ := bind_ok.1 h
  obtain ⟨_, -, h⟩ := bind_ok.1 h
  cases h; rfl

theorem workerPollAwait_linkOwner (s : State) : (workerPollAwait s).linkOwner = s.linkOwner := by
  unfold workerPollAwait
  split <;> rfl

theorem ownerStep_workerPollRelease {r : Reply} (h : workerPollRelease s r = .ok t) : OwnerStep s t := by
  obtain ⟨u, hu, rfl⟩ := map_ok.1 h
  exact (ownerStep_releaseBg hu).congr_right rfl

theorem workerPollAct_linkOwner {r : Reply} (h : workerPollAct s e r = .ok t) : t.linkOwner = s.linkOwner := by
  unfold workerPollAct at h
  split at h
  · obtain ⟨u, hu, rfl⟩ := map_ok.1 h
    exact postMailbox_linkOwner hu
  · split at h <;> cases h <;> rfl

theorem workerFailed_linkOwner (s : State) : (workerFailed s).linkOwner = s.linkOwner := by
  unfold workerFailed
  split
  · exact beginStop_linkOwner s
  · rfl

theorem workerStopDrain_linkOwner (s : State) : (workerStopDrain s).linkOwner = s.linkOwner := by
  unfold workerStopDrain
  split <;> rfl

theorem ownerStep_workerAdvance (h : workerAdvance s e = .ok t) : OwnerStep s t := by
  unfold workerAdvance at h
  generalize s.worker = w at h
  cases w with
  | pollAcquire => cases h; exact ownerStep_workerPollAcquire s
  | pollRelease r => exact ownerStep_workerPollRelease h
  | debounce seen => cases h; exact .stands (workerDebounce_linkOwner s e seen)
  | connReset => cases h; exact .stands (workerConnReset_linkOwner s)
  | connMailbox => cases h; exact .stands (workerConnMailbox_linkOwner s)
  | connFetching => exact .stands (workerConnFetching_linkOwner h)
  | connRegister => cases h; exact .stands (workerConnRegister_linkOwner s e)
  | connUpStat => cases h; exact .stands (clearStatsByPolicy_linkOwner s)
  | probe tries => exact .stands (workerProbe_linkOwner h)
  | probing tries => cases h; exact .stands (workerProbing_linkOwner s tries)
  | connDownStat => cases h; exact .stands (workerConnDownStat_linkOwner s)
  | pollWait => cases h; exact .stands (workerPollWait_linkOwner s e)
  | pollTest => cases h; exact .stands (workerPollTest_linkOwner s)
  | pollExchange => exact .stands (workerPollExchange_linkOwner h)
  | pollAwait => cases h; exact .stands (workerPollAwait_linkOwner s)
  | pollAct r => exact .stands (workerPollAct_linkOwner h)
  | leaveStat => cases h; exact .stands (clearStatsByPolicy_linkOwner s)
  | failed => cases h; exact .stands (workerFailed_linkOwner s)
  | stopDrain => cases h; exact .stands (workerStopDrain_linkOwner s)
  | connStat | connFetch | connUp | connBackoff | connDown | leaveUnregister | leaveGone | leaveDown | failUnregister
  | failGone | failDown | stopUnregister | stopGone | ended => cases h; exact .stands rfl

theorem ownerStep_workerStep (h : workerStep s e = .ok t) : OwnerStep s t := by
  rcases workerStep_ok h with ⟨-, rfl⟩ | ⟨-, -, -, rfl⟩ | ⟨-, -, h⟩
  · exact .stands rfl
  · exact .stands (allocFailure_linkOwner s)
  · exact ownerStep_workerAdvance h

/-! The step. -/

theorem ownerStep_applyInput {x : Input} (h : applyInput s x = .ok t) : OwnerStep s t := by
  cases x with
  | command c => cases h; exact .stands rfl
  | xcv e => exact .stands (xcvStep_outside h).linkOwner
  | worker e => exact ownerStep_workerStep h
  | fgTurn a => cases h; exact ownerStep_fgTurn s a
  | fgTimeout a => cases h; exact .stands (fgTimeout_linkOwner s a)
  | consumerTurn a => exact .stands (congrArg State.linkOwner (consumerTurn_frame h) :)
  | interrupt c a =>
    cases c with
    | fg => cases h; exact .stands (fgInterrupt_linkOwner s a)
    | bg | worker => cases h; exact .stands rfl
    | consumer => cases h; exact .stands (consumerInterrupt_linkOwner s a)
  | readyEdge | stopSet | allocFailure => cases h; exact .stands rfl

/-- The input used up and a command's operands are none of the link's variables. -/
theorem ownerStep_step (h : step s = .next t) : OwnerStep s t := by
  obtain ⟨-, -, h⟩ := step_cases h
  rcases h with ⟨-, rfl⟩ | ⟨c, rest, i, -, -, h⟩ | ⟨c, rest, _, -, -, rfl⟩ | ⟨x, rest, -, -, h⟩
  · exact .stands rfl
  · exact (ownerStep_exec h).congr_left rfl rfl rfl
  · exact .stands rfl
  · exact (ownerStep_applyInput h).congr_left rfl rfl rfl

/-- Settles O40: the four ways an owner can change over a step, each read for the poller. -/
theorem foregroundPreempts : Obligations.ForegroundPreempts := fun _ _ h => (ownerStep_step h).poller

end Sys2Proof.Laws

/-! PROOFS. The notification mailbox (45_mailbox.md): what its operations at the port and the turns of a consumer do, each as an
equation (R312 to R319), and that a notification posted is the one taken (R318, R320). -/

namespace Sys2Proof.Laws

open Sys2Proof.Machine

variable {s t : State} {c : Consumer} {a : Nat} {d : List Byte}

/-! `MBX.CLR` and `MBX.GONE` of the worker (R312, R319). -/

theorem mailboxVacant_eq_true_iff : s.mailboxVacant = true ↔ s.mbxInside = none ∧ s.mbxHeld = [] := by
  simp [State.mailboxVacant]

theorem mailboxVacant_eq_false (h : s.mbxInside ≠ none ∨ s.mbxHeld ≠ []) : s.mailboxVacant = false := by
  rw [← Bool.not_eq_true, mailboxVacant_eq_true_iff]
  tauto

section Worker

variable (hc : s.portCls = .worker)

include hc

theorem mbxClr_of_vacant (hn : s.connState = .initiating) (hv : s.mailboxVacant = true) :
    exec .mbxClr s = .next ((clearMailbox s).answer .ok []) := by
  simp [exec, execMbxClr, hc, hn, hv]

theorem mbxClr_of_inUse (hn : s.connState = .initiating) (hv : s.mailboxVacant = false) :
    exec .mbxClr s = .refused .mailboxInUse := by
  simp [exec, execMbxClr, hc, hn, hv]

theorem mbxGone_of_connected_or_stop (hn : s.connState = .connected ∨ s.stop = true) :
    exec .mbxGone s = .next ((goneMailbox s).answer .ok []) := by
  rcases hn with hn | hn <;> simp [exec, execMbxGone, hc, hn]

end Worker

/-- Settles O43: whether the mailbox is vacant decides the clearing; the sentinel is set wherever the worker leaves. -/
theorem mbxClrAndGone : Obligations.MbxClrAndGone := by
  refine fun s hc => ⟨fun hn => ⟨fun hi hh => ?_, fun huse => ?_⟩, fun hn => ?_⟩
  · rw [mbxClr_of_vacant hc hn (mailboxVacant_eq_true_iff.2 ⟨hi, hh⟩), answer_of_class (s := clearMailbox s) hc]
    rfl
  · exact mbxClr_of_inUse hc hn (mailboxVacant_eq_false huse)
  · rw [mbxGone_of_connected_or_stop hc hn, answer_of_class (s := goneMailbox s) hc]
    rfl

/-! `MBX.POST` (R313, R314). -/

/-- What a post to an empty mailbox leaves: the notification, counted, and the consumer waiting inside woken. -/
def posted (s : State) (d : List Byte) : State :=
  { s with
    mbxBuf := s.mbxBuf.write 0 d
    mbxLen := d.length
    notificationsReceived := bump s.cfg s.notificationsReceived
    mbxInside := wakeConsumer s.mbxInside }

theorem postMailbox_of_gone (h : s.mbxLen = -1) : postMailbox s d = .ok (s, .deviceGone) := if_pos h

theorem postMailbox_of_occupied (h : 0 < s.mbxLen) :
    postMailbox s d = .ok ({ s with notificationsFailed := bump s.cfg s.notificationsFailed }, .mailboxFull) := by
  have hgone : s.mbxLen ≠ -1 := by omega
  simp [postMailbox, hgone, h]

theorem postMailbox_of_empty (h : s.mbxLen = 0) (hd : d.length ≤ s.cfg.mbxCapacity) :
    postMailbox s d = .ok (posted s d, .ok) := by
  have hw := memWrite_of_le (s := s) (b := .mbx) (off := 0) (v := d) (by simpa [capacity] using hd)
  simp only [postMailbox, h, hw]
  rfl

section Post

variable (hc : s.portCls = .bg ∨ s.portCls = .worker)

include hc

/-- Past the gates the port answers what the mailbox does; in `Failed` the sentinel is met there already (log 46). -/
theorem mbxPost_admitted (hn : s.connState = .connected ∨ s.mbxLen = -1) (h1 : 1 ≤ s.cmdData.length)
    (h2 : s.cmdData.length ≤ s.cfg.mbxCapacity) {r : State × Status} (hr : postMailbox s s.cmdData = .ok r) :
    exec .mbxPost s = .next (r.1.answer r.2 []) := by
  by_cases hf : s.connState = .failed
  · have hgone : s.mbxLen = -1 := hn.resolve_left (by simp [hf])
    obtain rfl : (s, .deviceGone) = r := Except.ok.inj ((postMailbox_of_gone hgone).symm.trans hr)
    exact mbxPost_of_failed hf hc h1 h2
  · have hcls : ¬ (s.portCls ≠ .bg ∧ s.portCls ≠ .worker) := by tauto
    have hgate : ¬ (s.connState ≠ .connected ∧ s.connState ≠ .failed ∧ s.mbxLen ≠ -1) := by tauto
    simp only [exec, execMbxPost, if_neg hcls, if_neg hgate, if_pos (And.intro h1 h2), if_neg hf, hr]
    rfl

theorem mbxPost_of_operandSize (hn : s.connState = .connected ∨ s.mbxLen = -1)
    (h : s.cmdData.length = 0 ∨ s.cfg.mbxCapacity < s.cmdData.length) : exec .mbxPost s = .refused .operandSize := by
  have hcls : ¬ (s.portCls ≠ .bg ∧ s.portCls ≠ .worker) := by tauto
  have hgate : ¬ (s.connState ≠ .connected ∧ s.connState ≠ .failed ∧ s.mbxLen ≠ -1) := by tauto
  have hsize : ¬ (1 ≤ s.cmdData.length ∧ s.cmdData.length ≤ s.cfg.mbxCapacity) := by omega
  simp only [exec, execMbxPost, if_neg hcls, if_neg hgate, if_neg hsize]

/-- A post to an empty mailbox that answers: its operand is 1 to `MBX_CAPACITY` bytes, and it is stored. -/
theorem mbxPost_next_of_empty (hn : s.connState = .connected) (hm : s.mbxLen = 0) (h : exec .mbxPost s = .next t) :
    1 ≤ s.cmdData.length ∧ s.cmdData.length ≤ s.cfg.mbxCapacity ∧ t = (posted s s.cmdData).answer .ok [] := by
  by_cases hsize : s.cmdData.length = 0 ∨ s.cfg.mbxCapacity < s.cmdData.length
  · rw [mbxPost_of_operandSize hc (.inl hn) hsize] at h
    cases h
  · obtain ⟨h1, h2⟩ : 1 ≤ s.cmdData.length ∧ s.cmdData.length ≤ s.cfg.mbxCapacity := by omega
    rw [mbxPost_admitted hc (.inl hn) h1 h2 (postMailbox_of_empty hm h2)] at h
    cases h
    exact ⟨h1, h2, rfl⟩

end Post

/-- Settles O44: what the mailbox holds decides the post, once its operand has a size that fits. -/
theorem mbxPostDelivers : Obligations.MbxPostDelivers := by
  refine fun s hc hn => ⟨fun h1 h2 => ⟨fun hm => ?_, fun hm => ?_, fun hm => ?_⟩, mbxPost_of_operandSize hc hn⟩
  · exact ⟨_, mbxPost_admitted hc hn h1 h2 (postMailbox_of_empty hm h2), rfl, get_write_zero rfl⟩
  · exact mbxPost_admitted hc hn h1 h2 (postMailbox_of_occupied hm)
  · exact mbxPost_admitted hc hn h1 h2 (postMailbox_of_gone hm)

/-! The step `ENTER` of `MBX.TAKE` (R315, R317). -/

theorem mbxTake_enters (hc : s.portCls = .consumer)
    (hn : (s.connState = .connected ∧ s.registered = true) ∨ s.mbxLen = -1) (hb : s.consumerBusy s.portAgent = false)
    (nb : Bool) : exec (.mbxTake nb) s = .next (takeEnter nb s) := by
  rcases hn with ⟨hn, hr⟩ | hm
  · simp [exec, execMbxTake, hc, hn, hr, hb]
  · simp [exec, execMbxTake, hc, hm, hb]

theorem takeEnter_of_free (h : s.mbxLock = false) (nb : Bool) : takeEnter nb s = enterMailbox s s.portAgent nb := by
  simp [takeEnter, h]

theorem takeEnter_of_busy (h : s.mbxLock = true) (hp : s.cfg.mbxContention = .busy) (nb : Bool) :
    takeEnter nb s = s.raise .busy := by
  simp [takeEnter, h, hp]

theorem takeEnter_of_hold (h : s.mbxLock = true) (hp : s.cfg.mbxContention = .hold) (nb : Bool) :
    takeEnter nb s = if nb then s.raise .wouldBlock else { s with mbxHeld := s.mbxHeld ++ [s.portAgent] } := by
  simp [takeEnter, h, hp]

/-- Settles O45: the consumer is admitted, and the lock, the configured contention and `nb` decide in this order. -/
theorem mbxTakeEnters : Obligations.MbxTakeEnters := by
  intro s nb hc hn hheld hinside
  rw [mbxTake_enters hc hn (consumerBusy_eq_false hheld hinside)]
  refine ⟨fun hl => ?_, fun hl hp => ?_, fun hl hp hnb => ?_, fun hl hp hnb => ?_⟩
  · rw [takeEnter_of_free hl, enterMailbox]
  · rw [takeEnter_of_busy hl hp, raise_of_class hc]
  · rw [takeEnter_of_hold hl hp, if_pos hnb, raise_of_class hc]
  · rw [takeEnter_of_hold hl hp, if_neg (by simp [hnb])]

/-! The step `LOOK` (R315). -/

theorem takeLook_of_gone (h : s.mbxLen = -1) : takeLook s c = .ok (leaveMailbox s c.agent .deviceGone []) := if_pos h

theorem takeLook_of_occupied (h : 0 < s.mbxLen) (hread : s.mbxBuf.read 0 s.mbxLen.toNat = some d)
    (hd : d.length ≤ s.cfg.mbxCapacity) : takeLook s c = .ok (leaveMailbox { s with mbxLen := 0 } c.agent .ok d) := by
  have hgone : s.mbxLen ≠ -1 := by omega
  have hr : memRead s .mbx 0 s.mbxLen.toNat = .ok d :=
    memRead_of_read hread (by simpa [capacity, length_of_read hread] using hd)
  simp [takeLook, hgone, h, hr, bind, Except.bind, pure, Except.pure]

theorem takeLook_of_empty (h : s.mbxLen = 0) :
    takeLook s c = .ok (if c.nb then leaveMailbox s c.agent .wouldBlock []
      else { s with mbxInside := some { c with at_ := .wait } }) := by
  cases hnb : c.nb <;> simp [takeLook, h, hnb]

/-! The turns of a consumer and its interruption (R315, R317, R424). -/

theorem consumerTurn_of_looking (hi : s.mbxInside = some c) (hat : c.at_ = .look) :
    consumerTurn s c.agent = takeLook s c := by
  simp [consumerTurn, hi, hat]

theorem consumerTurn_of_waiting (hi : s.mbxInside = some c) (hat : c.at_ = .wait) : consumerTurn s c.agent = .ok s := by
  simp [consumerTurn, hi, hat]

theorem consumerTurn_of_other_inside (hi : s.mbxInside = some c) (ha : c.agent ≠ a) : consumerTurn s a = .ok s := by
  simp [consumerTurn, hi, ha]

theorem consumerTurn_of_held (hh : a ∈ s.mbxHeld) (hi : s.mbxInside = none) (hl : s.mbxLock = false) :
    consumerTurn s a = .ok (enterMailbox { s with mbxHeld := s.mbxHeld.filter fun b => decide (b ≠ a) } a false) := by
  simp [consumerTurn, hi, hh, hl]

theorem consumerInterrupt_of_held (hh : a ∈ s.mbxHeld) :
    consumerInterrupt s a =
      { s with mbxHeld := s.mbxHeld.filter fun b => decide (b ≠ a) }.deliver .consumer a .interrupted [] :=
  if_pos (List.contains_iff_mem.2 hh)

theorem consumerInterrupt_of_waiting (hh : c.agent ∉ s.mbxHeld) (hi : s.mbxInside = some c) (hat : c.at_ = .wait) :
    consumerInterrupt s c.agent = leaveMailbox s c.agent .interrupted [] := by
  simp [consumerInterrupt, hh, hi, hat]

/-- The look of the consumer inside, as a step of the slot. -/
theorem runs_takeLook (hl : live s) (hi : s.mbxInside = some c) (hat : c.at_ = .look)
    (h : ∀ rest, takeLook { s with inputs := rest } c = .ok { t with inputs := rest }) :
    Runs s (.consumerTurn c.agent) t :=
  runs_of_applyInput hl nofun fun rest => (consumerTurn_of_looking (s := { s with inputs := rest }) hi hat).trans (h rest)

/-- Settles O46: the consumer is held, or inside and looking, or inside and waiting; what the mailbox holds decides a look. -/
theorem mbxTakeLooks : Obligations.MbxTakeLooks := by
  refine ⟨fun s a hl hh => ⟨fun hi hlock => ?_, fun c hi ha => ?_, ?_⟩, fun s c hl hi => ⟨fun hat => ?_, fun hat hh => ?_⟩⟩
  · exact runs_of_applyInput hl nofun fun rest => consumerTurn_of_held (s := { s with inputs := rest }) hh hi hlock
  · exact runs_of_applyInput hl nofun fun rest => consumerTurn_of_other_inside (s := { s with inputs := rest }) hi ha
  · exact runs_of_applyInput hl nofun fun rest =>
      congrArg Except.ok (consumerInterrupt_of_held (s := { s with inputs := rest }) hh)
  · refine ⟨fun hm => ?_, fun d hm hread hd => ?_, fun hm hnb => ?_, fun hm hnb => ?_⟩
    · exact runs_takeLook hl hi hat fun rest => takeLook_of_gone (s := { s with inputs := rest }) hm
    · exact runs_takeLook hl hi hat fun rest => takeLook_of_occupied (s := { s with inputs := rest }) hm hread hd
    · refine runs_takeLook hl hi hat fun rest => ?_
      rw [takeLook_of_empty (s := { s with inputs := rest }) hm, if_pos hnb]
      rfl
    · refine runs_takeLook hl hi hat fun rest => ?_
      rw [takeLook_of_empty (s := { s with inputs := rest }) hm, if_neg (by simp [hnb])]
  · exact ⟨runs_of_applyInput hl nofun fun rest => consumerTurn_of_waiting (s := { s with inputs := rest }) hi hat,
      runs_of_applyInput hl nofun fun rest =>
        congrArg Except.ok (consumerInterrupt_of_waiting (s := { s with inputs := rest }) hh hi hat)⟩

/-! From the post to the look (R318, R320). -/

/-- A consumer that finds the lock free and a notification stored takes it at its first look. -/
theorem mbxTake_takes_stored (hlive : live s) (hc : s.portCls = .consumer)
    (hn : s.connState = .connected ∧ s.registered = true) (hb : s.consumerBusy s.portAgent = false)
    (hlock : s.mbxLock = false) (hm : 0 < s.mbxLen) (hread : s.mbxBuf.read 0 s.mbxLen.toNat = some d)
    (hd : d.length ≤ s.cfg.mbxCapacity) (nb : Bool) :
    ∃ u, exec (.mbxTake nb) s = .next u ∧ Runs u (.consumerTurn s.portAgent) { u with
      mbxLen := 0
      mbxLock := false
      mbxInside := none
      answers := ⟨.consumer, s.portAgent, .ok, d⟩ :: u.answers } := by
  refine ⟨enterMailbox s s.portAgent nb, ?_, ?_⟩
  · rw [mbxTake_enters hc (.inl hn) hb, takeEnter_of_free hlock]
  · exact runs_takeLook (s := enterMailbox s s.portAgent nb) (c := ⟨s.portAgent, nb, .look⟩) hlive rfl rfl fun rest =>
      takeLook_of_occupied (s := { enterMailbox s s.portAgent nb with inputs := rest }) hm hread hd

/-- Settles O47: the post leaves `posted`, where the consumer finds the lock free and reads what the post wrote. -/
theorem postedIsTaken : Obligations.PostedIsTaken := by
  intro s t a nb hlive hn hreg hc hm hlock hi hh hpost
  obtain ⟨hmin, hmax, rfl⟩ := mbxPost_next_of_empty hc hn hm hpost
  have hnobody : (posted s s.cmdData).consumerBusy a = false :=
    consumerBusy_eq_false (by simp [posted, hh]) (by simp [posted, hi, wakeConsumer])
  exact mbxTake_takes_stored (s := { (posted s s.cmdData).answer .ok [] with portCls := .consumer, portAgent := a }) hlive
    rfl ⟨hn, hreg⟩ hnobody hlock (Int.natCast_pos.2 hmin) (read_write_zero rfl) hmax nb

end Sys2Proof.Laws

/-! PROOFS. The other agents and the worker (R350): what a step that is no turn of the worker leaves of the worker's
variables, among them `conn_state`. -/

namespace Sys2Proof.Laws

open Sys2Proof.Machine

variable {s t u : State} {e : Env}

/-- The worker's position, `conn_state`, the registration and the discard stand; `stop` and, outside `Initiating`, the
sentinel stay once they are set. -/
structure LeavesWorker (s t : State) : Prop where
  worker : t.worker = s.worker
  connState : t.connState = s.connState
  registered : t.registered = s.registered
  discarded : t.discarded = s.discarded
  stop : s.stop = true → t.stop = true
  sentinel : s.connState ≠ .initiating → s.mbxLen = -1 → t.mbxLen = -1

namespace LeavesWorker

theorem rfl' (s : State) : LeavesWorker s s := ⟨rfl, rfl, rfl, rfl, id, fun _ => id⟩

theorem of_sameOutside (h : SameOutside s t) : LeavesWorker s t where
  worker := h.worker
  connState := h.connState
  registered := h.registered
  discarded := h.discarded
  stop := h.stop.trans
  sentinel _ := h.mbxLen.trans

/-- The answer to a command is none of the worker's variables. -/
theorem answer (h : LeavesWorker s t) (x : Status) (d : List Byte) : LeavesWorker s (t.answer x d) :=
  ⟨h.worker, h.connState, h.registered, h.discarded, h.stop, h.sentinel⟩

/-- A command presented at the port is none of the worker's variables. -/
theorem of_accepted {c : Command} {rest : List Input} (h : LeavesWorker (acceptCommand { s with inputs := rest } c) t) :
    LeavesWorker s t :=
  ⟨h.worker, h.connState, h.registered, h.discarded, h.stop, h.sentinel⟩

/-- The input used up is none of the worker's variables. -/
theorem of_usedUp {rest : List Input} (h : LeavesWorker { s with inputs := rest } t) : LeavesWorker s t :=
  ⟨h.worker, h.connState, h.registered, h.discarded, h.stop, h.sentinel⟩

end LeavesWorker

/-! The arbiter and the mailbox. -/

theorem leavesWorker_admitFg (nb : Bool) (s : State) : LeavesWorker s (admitFg nb s) := by
  unfold admitFg
  repeat' split
  all_goals exact ⟨rfl, rfl, rfl, rfl, id, fun _ => id⟩

theorem leavesWorker_acquireBg (s : State) : LeavesWorker s (acquireBg s).1 := by
  unfold acquireBg
  split <;> exact ⟨rfl, rfl, rfl, rfl, id, fun _ => id⟩

theorem leavesWorker_releaseBg (h : releaseBg s = .ok t) : LeavesWorker s t := by
  obtain ⟨-, -, rfl⟩ := releaseBg_ok h
  exact ⟨rfl, rfl, rfl, rfl, id, fun _ => id⟩

theorem leavesWorker_leaveFg (s : State) (a : Nat) (x : Status) : LeavesWorker s (leaveFg s a x) :=
  ⟨rfl, rfl, rfl, rfl, id, fun _ => id⟩

theorem leavesWorker_fgTurn (s : State) (a : Nat) : LeavesWorker s (fgTurn s a) := by
  rw [fgTurn_frame]
  exact ⟨rfl, rfl, rfl, rfl, id, fun _ => id⟩

theorem leavesWorker_fgTimeout (s : State) (a : Nat) : LeavesWorker s (fgTimeout s a) := by
  unfold fgTimeout
  split
  · exact leavesWorker_leaveFg ..
  · exact .rfl' s

theorem leavesWorker_fgInterrupt (s : State) (a : Nat) : LeavesWorker s (fgInterrupt s a) := by
  unfold fgInterrupt
  split
  · exact leavesWorker_leaveFg ..
  · exact .rfl' s

/-- A post never removes the sentinel. -/
theorem leavesWorker_postMailbox {d : List Byte} {r : State × Status} (h : postMailbox s d = .ok r) :
    LeavesWorker s r.1 := by
  rcases postMailbox_ok h with ⟨-, rfl⟩ | ⟨-, rfl⟩ | ⟨hgone, -, -, rfl⟩
  · exact .rfl' s
  · exact ⟨rfl, rfl, rfl, rfl, id, fun _ => id⟩
  · exact ⟨rfl, rfl, rfl, rfl, id, fun _ hm => absurd hm hgone⟩

/-- A look that finds the sentinel leaves it standing. -/
theorem leavesWorker_takeLook {c : Consumer} (h : takeLook s c = .ok t) : LeavesWorker s t := by
  rcases takeLook_ok h with ⟨-, rfl⟩ | ⟨hpos, -, -, rfl⟩ | ⟨-, -, -, rfl⟩ | ⟨-, -, -, rfl⟩
  · exact ⟨rfl, rfl, rfl, rfl, id, fun _ => id⟩
  · exact ⟨rfl, rfl, rfl, rfl, id, fun _ hm => absurd hm (by omega)⟩
  · exact ⟨rfl, rfl, rfl, rfl, id, fun _ => id⟩
  · exact ⟨rfl, rfl, rfl, rfl, id, fun _ => id⟩

theorem leavesWorker_consumerTurn {a : Nat} (h : consumerTurn s a = .ok t) : LeavesWorker s t := by
  unfold consumerTurn at h
  split at h
  · split at h
    · exact leavesWorker_takeLook h
    · cases h; exact .rfl' s
  · split at h <;> cases h <;> exact ⟨rfl, rfl, rfl, rfl, id, fun _ => id⟩

theorem leavesWorker_consumerInterrupt (s : State) (a : Nat) : LeavesWorker s (consumerInterrupt s a) := by
  unfold consumerInterrupt
  repeat' split
  all_goals exact ⟨rfl, rfl, rfl, rfl, id, fun _ => id⟩

theorem leavesWorker_takeEnter (nb : Bool) (s : State) : LeavesWorker s (takeEnter nb s) := by
  unfold takeEnter
  repeat' split
  all_goals exact ⟨rfl, rfl, rfl, rfl, id, fun _ => id⟩

/-! The command port. Only `MBX.CLR` discards a sentinel, and only in `Initiating` (R312, R436). -/

theorem leavesWorker_arbAcqFg {nb : Bool} (h : execArbAcqFg nb s = .next t) : LeavesWorker s t := by
  obtain ⟨-, h⟩ := next_of_guard.1 h
  obtain ⟨-, h⟩ := next_of_guard.1 h
  obtain ⟨-, h⟩ := next_of_guard.1 h
  obtain ⟨-, h⟩ := next_of_guard.1 h
  cases h
  exact leavesWorker_admitFg nb s

theorem leavesWorker_arbRelFg (h : execArbRelFg s = .next t) : LeavesWorker s t := by
  obtain ⟨-, h⟩ := next_of_guard.1 h
  obtain ⟨-, h⟩ := next_of_guard.1 h
  obtain ⟨-, h⟩ := next_of_guard.1 h
  cases h
  exact ⟨rfl, rfl, rfl, rfl, id, fun _ => id⟩

theorem leavesWorker_arbAcqBg (h : execArbAcqBg s = .next t) : LeavesWorker s t := by
  obtain ⟨-, h⟩ := next_of_guard.1 h
  split at h
  · cases h; exact (LeavesWorker.rfl' s).answer _ _
  · obtain ⟨-, h⟩ := next_of_guard.1 h
    cases h
    exact (leavesWorker_acquireBg s).answer _ _

theorem leavesWorker_arbRelBg (h : execArbRelBg s = .next t) : LeavesWorker s t := by
  obtain ⟨-, h⟩ := next_of_guard.1 h
  obtain ⟨-, h⟩ := next_of_guard.1 h
  obtain ⟨u, hu, rfl⟩ := map_ok.1 (outcome_next.1 h)
  split
  · exact (LeavesWorker.rfl' s).answer _ _
  · exact (leavesWorker_releaseBg hu).answer _ _

theorem leavesWorker_frmEnc (h : execFrmEnc s = .next t) : LeavesWorker s t := by
  unfold execFrmEnc at h
  split at h
  · split at h
    · cases h; exact (LeavesWorker.rfl' s).answer _ _
    · obtain ⟨u, hu, rfl⟩ := map_ok.1 (outcome_next.1 h)
      exact (LeavesWorker.of_sameOutside (storeFrame_outside hu)).answer _ _
  · cases h

theorem leavesWorker_xcvXchg (h : execXcvXchg s = .next t) : LeavesWorker s t := by
  unfold execXcvXchg at h
  split at h
  · cases h
  · obtain ⟨-, h⟩ := next_of_guard.1 h
    obtain ⟨-, h⟩ := next_of_guard.1 h
    split at h <;> cases h <;> exact ⟨rfl, rfl, rfl, rfl, id, fun _ => id⟩

theorem leavesWorker_mbxClr (h : execMbxClr s = .next t) : LeavesWorker s t := by
  obtain ⟨-, h⟩ := next_of_guard.1 h
  obtain ⟨hinit, h⟩ := next_of_guard.1 h
  obtain ⟨-, h⟩ := next_of_guard.1 h
  cases h
  exact ⟨rfl, rfl, rfl, rfl, id, fun hn => absurd (not_not.1 hinit) hn⟩

theorem leavesWorker_mbxGone (h : execMbxGone s = .next t) : LeavesWorker s t := by
  obtain ⟨-, h⟩ := next_of_guard.1 h
  obtain ⟨-, h⟩ := next_of_guard.1 h
  cases h
  exact ⟨rfl, rfl, rfl, rfl, id, fun _ _ => rfl⟩

theorem leavesWorker_mbxPost (h : execMbxPost s = .next t) : LeavesWorker s t := by
  obtain ⟨-, h⟩ := next_of_guard.1 h
  obtain ⟨-, h⟩ := next_of_guard.1 h
  split at h
  · split at h
    · cases h; exact (LeavesWorker.rfl' s).answer _ _
    · obtain ⟨r, hr, rfl⟩ := map_ok.1 (outcome_next.1 h)
      exact (leavesWorker_postMailbox hr).answer _ _
  · cases h

theorem leavesWorker_mbxTake {nb : Bool} (h : execMbxTake nb s = .next t) : LeavesWorker s t := by
  obtain ⟨-, h⟩ := next_of_guard.1 h
  obtain ⟨-, h⟩ := next_of_guard.1 h
  obtain ⟨-, h⟩ := next_of_guard.1 h
  obtain ⟨-, h⟩ := next_of_guard.1 h
  split at h <;> cases h
  · exact (LeavesWorker.rfl' s).answer _ _
  · exact leavesWorker_takeEnter nb s

theorem leavesWorker_exec {i : Instr} (h : exec i s = .next t) : LeavesWorker s t := by
  cases i with
  | arbAcqFg nb => exact leavesWorker_arbAcqFg h
  | arbRelFg => exact leavesWorker_arbRelFg h
  | arbAcqBg => exact leavesWorker_arbAcqBg h
  | arbRelBg => exact leavesWorker_arbRelBg h
  | frmEnc => exact leavesWorker_frmEnc h
  | xcvXchg => exact leavesWorker_xcvXchg h
  | mbxClr => exact leavesWorker_mbxClr h
  | mbxGone => exact leavesWorker_mbxGone h
  | mbxPost => exact leavesWorker_mbxPost h
  | mbxTake nb => exact leavesWorker_mbxTake h
  | crcClr | statRd k => cases h; exact ⟨rfl, rfl, rfl, rfl, id, fun _ => id⟩
  | crcByte _ | crcRd | frmVal | frmDec | lnkRst | statClr =>
    simp only [exec, execCrcByte, execCrcRd, execFrmVal, execFrmDec, execLnkRst, execStatClr] at h
    repeat' split at h
    all_goals cases h
    all_goals exact ⟨rfl, rfl, rfl, rfl, id, fun _ => id⟩

/-- An input other than the worker's turn leaves the worker's variables. -/
theorem leavesWorker_applyInput {x : Input} (hx : ∀ e, x ≠ .worker e) (h : applyInput s x = .ok t) : LeavesWorker s t := by
  cases x with
  | worker e => exact absurd rfl (hx e)
  | xcv e => exact .of_sameOutside (xcvStep_outside h)
  | fgTurn a => cases h; exact leavesWorker_fgTurn s a
  | fgTimeout a => cases h; exact leavesWorker_fgTimeout s a
  | consumerTurn a => exact leavesWorker_consumerTurn h
  | interrupt c a =>
    cases c with
    | fg => cases h; exact leavesWorker_fgInterrupt s a
    | bg | worker => cases h; exact .rfl' s
    | consumer => cases h; exact leavesWorker_consumerInterrupt s a
  | stopSet => cases h; exact ⟨rfl, rfl, rfl, rfl, fun _ => rfl, fun _ => id⟩
  | command c | readyEdge | allocFailure => cases h; exact ⟨rfl, rfl, rfl, rfl, id, fun _ => id⟩

/-- A step that answers leaves the worker's variables, unless it is a turn of the worker. -/
theorem leavesWorker_step (h : step s = .next t) :
    s.discarded = false ∧ (LeavesWorker s t ∨
      ∃ e rest, s.inputs = .worker e :: rest ∧ workerStep { s with inputs := rest } e = .ok t) := by
  obtain ⟨hd, -, h⟩ := step_cases h
  refine ⟨hd, ?_⟩
  rcases h with ⟨-, rfl⟩ | ⟨c, rest, i, -, -, h⟩ | ⟨c, rest, _, -, -, rfl⟩ | ⟨x, rest, hin, -, h⟩
  · exact .inl (.rfl' _)
  · exact .inl (leavesWorker_exec h).of_accepted
  · exact .inl ((LeavesWorker.rfl' _).answer _ _).of_accepted
  · by_cases hx : ∃ e, x = .worker e
    · obtain ⟨e, rfl⟩ := hx
      exact .inr ⟨e, rest, hin, h⟩
    · exact .inl (leavesWorker_applyInput (fun e he => hx ⟨e, he⟩) h).of_usedUp

end Sys2Proof.Laws

/-! PROOFS. Everything that a turn of the worker can do to its position, to `conn_state` and to the discard (R351 to R358,
R466), and the transition table (R350). -/

namespace Sys2Proof.Laws

open Sys2Proof.Machine

variable {s t u : State} {e : Env} {w w' : WorkerPos}

/-- A step of a slot whose worker's position agrees with its state: it agrees again, `conn_state` stands or takes a
transition of the table, and the state is discarded only by the drain. -/
structure WorkerTurn (s t : State) : Prop where
  ok : workerOk t
  conn : t.connState = s.connState ∨ connTransition s.connState t.connState
  discarded : t.discarded = true → s.discarded = true ∨ (s.worker = .stopDrain ∧ drained s = true)

/-- The position `w'` can follow `w` without an action on the registration: it belongs to the same connection state and the
device may be registered there if it may at `w`. It is no position of the shutdown. -/
structure Follows (w w' : WorkerPos) : Prop where
  home : ∀ c, WorkerPosIn w c = true → WorkerPosIn w' c = true
  registered : WorkerPosRegistered w = true → WorkerPosRegistered w' = true
  stopping : WorkerPosStopping w' = false

theorem posIn_of_workerOk (hs : workerOk s) (hw : s.worker = w) : WorkerPosIn w s.connState = true := by
  obtain ⟨hin, -⟩ := hs
  exact hw ▸ hin

theorem posRegistered_of_workerOk (hs : workerOk s) (hw : s.worker = w) (hr : s.registered = true) :
    WorkerPosRegistered w = true := by
  obtain ⟨-, hreg, -⟩ := hs
  exact hw ▸ hreg hr

theorem stop_of_workerOk (hs : workerOk s) (hw : s.worker = w) (hpos : WorkerPosStopping w = true) : s.stop = true := by
  obtain ⟨-, -, hstop, -⟩ := hs
  exact hstop (hw ▸ hpos)

/-- Outside the shutdown a position asks nothing of `stop` and of the sentinel. -/
theorem workerOk_of_not_stopping (hin : WorkerPosIn t.worker t.connState = true)
    (hreg : t.registered = true → WorkerPosRegistered t.worker = true) (hstop : WorkerPosStopping t.worker = false) :
    workerOk t := by
  refine ⟨hin, hreg, fun h => absurd h (by simp [hstop]), fun h => ?_⟩
  rcases h with h | h <;> simp [h, WorkerPosStopping] at hstop

namespace WorkerTurn

theorem of_leaves (hs : workerOk s) (h : LeavesWorker s t) : WorkerTurn s t := by
  obtain ⟨hin, hreg, hstop, hgone⟩ := hs
  refine ⟨⟨?_, ?_, ?_, ?_⟩, .inl h.connState, fun hd => .inl (h.discarded.symm.trans hd)⟩
  · rwa [h.worker, h.connState]
  · rwa [h.worker, h.registered]
  · rw [h.worker]
    exact fun hw => h.stop (hstop hw)
  · rw [h.worker, h.connState]
    exact fun hw hc => h.sentinel hc (hgone hw hc)

/-- `conn_state` may change where the worker takes a position outside the shutdown. -/
theorem crosses (hs : workerOk s) (hw : s.worker = w) (hreg : t.registered = s.registered)
    (hdisc : t.discarded = s.discarded) (hconn : t.connState = s.connState ∨ connTransition s.connState t.connState)
    (hin : WorkerPosIn t.worker t.connState = true)
    (hpos : WorkerPosRegistered w = true → WorkerPosRegistered t.worker = true)
    (hstop : WorkerPosStopping t.worker = false) : WorkerTurn s t where
  ok := workerOk_of_not_stopping hin (fun hr => hpos (posRegistered_of_workerOk hs hw (hreg.symm.trans hr))) hstop
  conn := hconn
  discarded hd := .inl (hdisc.symm.trans hd)

/-- The worker goes on in its connection state. -/
theorem moves (hs : workerOk s) (hw : s.worker = w) (hf : Follows w t.worker) (hconn : t.connState = s.connState)
    (hreg : t.registered = s.registered) (hdisc : t.discarded = s.discarded) : WorkerTurn s t :=
  crosses hs hw hreg hdisc (.inl hconn) (hconn ▸ hf.home _ (posIn_of_workerOk hs hw)) hf.registered hf.stopping

/-- After an action that leaves its variables the worker goes on in its connection state. -/
theorem goes (hs : workerOk s) (hw : s.worker = w) (hf : Follows w w') (h : LeavesWorker s t) :
    WorkerTurn s (t.goWorker w') :=
  moves hs hw hf h.connState h.registered h.discarded

/-- A step begins in the same whatever inputs are to come. -/
theorem of_usedUp {rest : List Input} (h : WorkerTurn { s with inputs := rest } t) : WorkerTurn s t :=
  ⟨h.ok, h.conn, h.discarded⟩

theorem of_unlatched {b : Bool} (h : WorkerTurn { s with readyLatch := b } t) : WorkerTurn s t :=
  ⟨h.ok, h.conn, h.discarded⟩

/-- To unregister is to leave a position where the device may be registered. -/
theorem unregisters (hs : workerOk s) (hw : s.worker = w) (hhome : ∀ c, WorkerPosIn w c = true → WorkerPosIn w' c = true)
    (hstop : WorkerPosStopping w' = true → WorkerPosStopping w = true) (hdrain : w' ≠ .stopDrain ∧ w' ≠ .ended) :
    WorkerTurn s (workerUnregister s w') := by
  have hin : WorkerPosIn w' s.connState = true := hhome _ (posIn_of_workerOk hs hw)
  have hseen (h : WorkerPosStopping w' = true) : s.stop = true := stop_of_workerOk hs hw (hstop h)
  exact ⟨⟨hin, nofun, hseen, fun h => (h.elim hdrain.1 hdrain.2).elim⟩, .inl rfl, .inl⟩

end WorkerTurn

/-! Shutdown and allocation failure (R356, R358). -/

/-- The worker that sees `stop` unregisters first if it is in `Connected`, the only place to have registered. -/
theorem workerTurn_beginStop (hs : workerOk s) (hstop : s.stop = true)
    (hreg : WorkerPosRegistered s.worker = true → s.connState = .connected) : WorkerTurn s (beginStop s) := by
  by_cases hc : s.connState = .connected
  · rw [beginStop_eq, if_pos hc]
    exact ⟨⟨decide_eq_true hc, fun _ => rfl, fun _ => hstop, nofun⟩, .inl rfl, .inl⟩
  · rw [beginStop_eq, if_neg hc]
    exact ⟨⟨rfl, fun hr => absurd (hreg (posRegistered_of_workerOk hs rfl hr)) hc, fun _ => hstop, nofun⟩, .inl rfl, .inl⟩

theorem workerTurn_abandonConnect (hs : workerOk s) (hstop : s.stop = true)
    (hreg : WorkerPosRegistered s.worker = true → s.connState = .connected) : WorkerTurn s (abandonConnect s) := by
  obtain ⟨hok, hconn, hdisc⟩ := workerTurn_beginStop hs hstop hreg
  rw [beginStop_eq] at hok hconn hdisc
  rw [abandonConnect_eq]
  exact ⟨hok, hconn, hdisc⟩

/-- No position of `Failed` takes an allocation failure. -/
theorem ne_failed_of_mayFail (hmay : w.mayFail = true) {c : ConnState} (hin : WorkerPosIn w c = true) : c ≠ .failed := by
  rintro rfl
  cases w with
  | failed | stopGone | stopDrain | ended => cases hmay
  | _ => simp [WorkerPosIn] at hin

/-- A position that takes an allocation failure while the device may be registered lies in `Connected`. -/
theorem connected_of_mayFail (hmay : w.mayFail = true) (hr : WorkerPosRegistered w = true) {c : ConnState}
    (hin : WorkerPosIn w c = true) : c = .connected := by
  cases w with
  | pollWait | pollTest | pollAcquire | pollAct _ | leaveUnregister => exact of_decide_eq_true hin
  | connUpStat | connUp | pollExchange | pollAwait | pollRelease _ | failUnregister | stopUnregister => cases hmay
  | _ => cases hr

theorem connTransition_failed {c : ConnState} (hc : c ≠ .failed) : connTransition c .failed := by
  cases c with
  | failed => exact absurd rfl hc
  | disconnected | initiating | connected => decide

theorem workerTurn_allocFailure (hs : workerOk s) (hmay : s.worker.mayFail = true) : WorkerTurn s (allocFailure s) := by
  rcases allocFailure_cases s with ⟨hc, heq⟩ | ⟨hc, heq⟩ <;> rw [heq]
  · refine ⟨workerOk_of_not_stopping ?_ (fun hr => ?_) ?_, .inl rfl, .inl⟩
    · cases s.registered <;> exact decide_eq_true hc
    · have hr : s.registered = true := hr
      simp [State.goWorker, hr, WorkerPosRegistered]
    · cases s.registered <;> rfl
  · exact .crosses hs rfl rfl rfl (.inr (connTransition_failed (ne_failed_of_mayFail hmay (posIn_of_workerOk hs rfl)))) rfl
      (fun hr => absurd (connected_of_mayFail hmay hr (posIn_of_workerOk hs rfl)) hc) rfl

/-! The turns at each position, in the order of the sequences. -/

theorem workerTurn_debounce {seen : Nat} (hs : workerOk s) (hw : s.worker = .debounce seen) :
    WorkerTurn s (workerDebounce s e seen) := by
  have hconn : s.connState = .disconnected := of_decide_eq_true (posIn_of_workerOk hs hw)
  unfold workerDebounce
  split
  · next hstop => exact workerTurn_beginStop hs hstop (by simp [hw, WorkerPosRegistered])
  · split
    · split
      · exact .crosses hs hw rfl rfl (.inr (by rw [hconn]; exact (by decide : connTransition .disconnected .initiating))) rfl
          nofun rfl
      · exact .goes hs hw ⟨fun _ => id, nofun, rfl⟩ (.rfl' s)
    · exact .goes hs hw ⟨fun _ => id, nofun, rfl⟩ (.rfl' s)

theorem workerTurn_connReset (hs : workerOk s) (hw : s.worker = .connReset) : WorkerTurn s (workerConnReset s) := by
  unfold workerConnReset
  split
  · next hstop => exact workerTurn_beginStop hs hstop (by simp [hw, WorkerPosRegistered])
  · split
    · exact .moves hs hw ⟨fun _ => id, nofun, rfl⟩ rfl rfl rfl
    · exact .of_leaves hs (.rfl' s)

theorem workerTurn_connMailbox (hs : workerOk s) (hw : s.worker = .connMailbox) : WorkerTurn s (workerConnMailbox s) := by
  unfold workerConnMailbox
  split
  · next hstop => exact workerTurn_beginStop hs hstop (by simp [hw, WorkerPosRegistered])
  · split
    · exact .moves hs hw ⟨fun _ => id, nofun, rfl⟩ rfl rfl rfl
    · exact .of_leaves hs (.rfl' s)

theorem workerTurn_connFetching (hs : workerOk s) (hw : s.worker = .connFetching) (h : workerConnFetching s e = .ok t) :
    WorkerTurn s t := by
  unfold workerConnFetching at h
  split at h
  · next hstop => cases h; exact workerTurn_abandonConnect hs hstop (by simp [hw, WorkerPosRegistered])
  · obtain ⟨r, hr, h⟩ := bind_ok.1 h
    have hleaves : LeavesWorker s r.1 := .of_sameOutside (fetchStep_outside hr)
    split at h <;> cases h
    · exact .of_leaves hs hleaves
    · exact .goes hs hw ⟨fun _ => id, nofun, rfl⟩ hleaves
    · exact .goes hs hw ⟨fun _ => id, nofun, rfl⟩ hleaves

/-- Registration is the step that makes `registered` true (R433). -/
theorem workerTurn_connRegister (hs : workerOk s) (hw : s.worker = .connRegister) :
    WorkerTurn s (workerConnRegister s e) := by
  have hconn : s.connState = .initiating := of_decide_eq_true (posIn_of_workerOk hs hw)
  unfold workerConnRegister
  split
  · exact ⟨workerOk_of_not_stopping (decide_eq_true hconn) (fun _ => rfl) rfl, .inl rfl, .inl⟩
  · exact .crosses hs hw rfl rfl (.inr (connTransition_failed (by simp [hconn]))) rfl nofun rfl

theorem leavesWorker_clearStatsByPolicy (s : State) : LeavesWorker s (clearStatsByPolicy s) := by
  unfold clearStatsByPolicy
  split <;> exact ⟨rfl, rfl, rfl, rfl, id, fun _ => id⟩

theorem workerTurn_connUp (hs : workerOk s) (hw : s.worker = .connUp) : WorkerTurn s (workerConnUp s) := by
  have hconn : s.connState = .initiating := of_decide_eq_true (posIn_of_workerOk hs hw)
  exact .crosses hs hw rfl rfl (.inr (by rw [hconn]; exact (by decide : connTransition .initiating .connected))) rfl id rfl

theorem workerTurn_probe {n : Nat} (hs : workerOk s) (hw : s.worker = .probe n) (h : workerProbe s n = .ok t) :
    WorkerTurn s t := by
  unfold workerProbe at h
  split at h
  · next hstop => cases h; exact workerTurn_abandonConnect hs hstop (by simp [hw, WorkerPosRegistered])
  · obtain ⟨_, -, h⟩ := bind_ok.1 h
    obtain ⟨_, -, h⟩ := bind_ok.1 h
    obtain ⟨_, -, h⟩ := bind_ok.1 h
    cases h
    exact .moves hs hw ⟨fun _ => id, nofun, rfl⟩ rfl rfl rfl

theorem workerTurn_probing {n : Nat} (hs : workerOk s) (hw : s.worker = .probing n) : WorkerTurn s (workerProbing s n) := by
  unfold workerProbing
  split
  · exact .of_leaves hs (.rfl' s)
  · split
    · next hstop => exact workerTurn_abandonConnect hs hstop (by simp [hw, WorkerPosRegistered])
    · dsimp only
      repeat' split
      all_goals exact .moves hs hw ⟨fun _ => id, nofun, rfl⟩ rfl rfl rfl

theorem workerTurn_connDownStat (hs : workerOk s) (hw : s.worker = .connDownStat) :
    WorkerTurn s (workerConnDownStat s) := by
  unfold workerConnDownStat
  split
  · next hstop => exact workerTurn_abandonConnect hs hstop (by simp [hw, WorkerPosRegistered])
  · exact .goes hs hw ⟨fun _ => id, nofun, rfl⟩ (leavesWorker_clearStatsByPolicy s)

theorem workerTurn_connDown (hs : workerOk s) (hw : s.worker = .connDown) : WorkerTurn s (workerConnDown s) := by
  have hconn : s.connState = .initiating := of_decide_eq_true (posIn_of_workerOk hs hw)
  exact .crosses hs hw rfl rfl (.inr (by rw [hconn]; exact (by decide : connTransition .initiating .disconnected))) rfl
    nofun rfl

theorem workerTurn_pollWait (hs : workerOk s) (hw : s.worker = .pollWait) : WorkerTurn s (workerPollWait s e) := by
  have hconn : s.connState = .connected := of_decide_eq_true (posIn_of_workerOk hs hw)
  have hwait : (readyWait s s.cfg.tPoll e.ready).1 = { s with readyLatch := false } := readyWait_state ..
  unfold workerPollWait
  simp only [hwait]
  split
  · next hstop => exact (workerTurn_beginStop (s := { s with readyLatch := false }) hs hstop fun _ => hconn).of_unlatched
  · split
    · exact .of_leaves hs ⟨rfl, rfl, rfl, rfl, id, fun _ => id⟩
    · exact .moves hs hw ⟨fun _ => id, id, rfl⟩ rfl rfl rfl

theorem workerTurn_pollTest (hs : workerOk s) (hw : s.worker = .pollTest) : WorkerTurn s (workerPollTest s) := by
  unfold workerPollTest
  split <;> exact .moves hs hw ⟨fun _ => id, id, rfl⟩ rfl rfl rfl

theorem workerTurn_pollAcquire (hs : workerOk s) (hw : s.worker = .pollAcquire) : WorkerTurn s (workerPollAcquire s) := by
  have hconn : s.connState = .connected := of_decide_eq_true (posIn_of_workerOk hs hw)
  have hacq := leavesWorker_acquireBg s
  unfold workerPollAcquire
  split
  · next hstop => exact workerTurn_beginStop hs hstop fun _ => hconn
  · split
    · next heq => rw [heq] at hacq; exact .goes hs hw ⟨fun _ => id, id, rfl⟩ hacq
    · next heq => rw [heq] at hacq; exact .of_leaves hs hacq

theorem workerTurn_pollExchange (hs : workerOk s) (hw : s.worker = .pollExchange) (h : workerPollExchange s = .ok t) :
    WorkerTurn s t := by
  unfold workerPollExchange at h
  obtain ⟨_, -, h⟩ := bind_ok.1 h
  obtain ⟨_, -, h⟩ := bind_ok.1 h
  obtain ⟨_, -, h⟩ := bind_ok.1 h
  obtain ⟨_, -, h⟩ := bind_ok.1 h
  cases h
  exact .moves hs hw ⟨fun _ => id, id, rfl⟩ rfl rfl rfl

theorem workerTurn_pollAwait (hs : workerOk s) (hw : s.worker = .pollAwait) : WorkerTurn s (workerPollAwait s) := by
  unfold workerPollAwait
  split
  · exact .of_leaves hs (.rfl' s)
  · exact .moves hs hw ⟨fun _ => id, id, rfl⟩ rfl rfl rfl

theorem workerTurn_pollRelease {r : Reply} (hs : workerOk s) (hw : s.worker = .pollRelease r)
    (h : workerPollRelease s r = .ok t) : WorkerTurn s t := by
  obtain ⟨u, hu, rfl⟩ := map_ok.1 h
  exact .goes hs hw ⟨fun _ => id, id, rfl⟩ (leavesWorker_releaseBg hu)

theorem workerTurn_pollAct {r : Reply} (hs : workerOk s) (hw : s.worker = .pollAct r) (h : workerPollAct s e r = .ok t) :
    WorkerTurn s t := by
  unfold workerPollAct at h
  split at h
  · obtain ⟨u, hu, rfl⟩ := map_ok.1 h
    exact .goes hs hw ⟨fun _ => id, id, rfl⟩ (leavesWorker_postMailbox hu)
  · split at h <;> cases h <;> exact .goes hs hw ⟨fun _ => id, id, rfl⟩ (.rfl' s)

theorem workerTurn_leaveDown (hs : workerOk s) (hw : s.worker = .leaveDown) : WorkerTurn s (workerLeaveDown s) := by
  have hconn : s.connState = .connected := of_decide_eq_true (posIn_of_workerOk hs hw)
  exact .crosses hs hw rfl rfl (.inr (by rw [hconn]; exact (by decide : connTransition .connected .disconnected))) rfl
    nofun rfl

theorem workerTurn_failDown (hs : workerOk s) (hw : s.worker = .failDown) : WorkerTurn s (workerFailDown s) := by
  have hconn : s.connState = .connected := of_decide_eq_true (posIn_of_workerOk hs hw)
  exact .crosses hs hw rfl rfl (.inr (connTransition_failed (by simp [hconn]))) rfl nofun rfl

theorem workerTurn_failed (hs : workerOk s) (hw : s.worker = .failed) : WorkerTurn s (workerFailed s) := by
  unfold workerFailed
  split
  · next hstop => exact workerTurn_beginStop hs hstop (by simp [hw, WorkerPosRegistered])
  · exact .of_leaves hs (.rfl' s)

theorem drained_eq_true_iff : drained s = true ↔ s.xcvState = .idle ∧ s.linkOwner = .none ∧ s.fgIntent = 0 ∧
    s.mbxLock = false ∧ s.mbxHeld = [] ∧ s.mbxLen = -1 := by
  simp [drained, and_assoc]

/-- `MBX.GONE` of the shutdown sets the sentinel under which the slot is drained (R466). -/
theorem workerTurn_stopGone (hs : workerOk s) (hw : s.worker = .stopGone) : WorkerTurn s (workerGone s .stopDrain) := by
  have hreg := posRegistered_of_workerOk hs hw
  have hstop : s.stop = true := stop_of_workerOk hs hw rfl
  exact ⟨⟨rfl, hreg, fun _ => hstop, fun _ _ => rfl⟩, .inl rfl, .inl⟩

theorem workerTurn_stopDrain (hs : workerOk s) (hw : s.worker = .stopDrain) : WorkerTurn s (workerStopDrain s) := by
  have hreg := posRegistered_of_workerOk hs hw
  have hstop : s.stop = true := stop_of_workerOk hs hw rfl
  unfold workerStopDrain
  split
  · next hdrained =>
    obtain ⟨-, -, -, -, -, hgone⟩ := drained_eq_true_iff.1 hdrained
    exact ⟨⟨rfl, hreg, fun _ => hstop, fun _ _ => hgone⟩, .inl rfl, fun _ => .inr ⟨hw, hdrained⟩⟩
  · exact .of_leaves hs (.rfl' s)

theorem workerTurn_workerAdvance (hs : workerOk s) (h : workerAdvance s e = .ok t) : WorkerTurn s t := by
  unfold workerAdvance at h
  generalize hw : s.worker = w at h
  cases w with
  | debounce seen => cases h; exact workerTurn_debounce hs hw
  | connReset => cases h; exact workerTurn_connReset hs hw
  | connMailbox => cases h; exact workerTurn_connMailbox hs hw
  | connFetching => exact workerTurn_connFetching hs hw h
  | connRegister => cases h; exact workerTurn_connRegister hs hw
  | connUpStat => cases h; exact .goes hs hw ⟨fun _ => id, id, rfl⟩ (leavesWorker_clearStatsByPolicy s)
  | connUp => cases h; exact workerTurn_connUp hs hw
  | probe n => exact workerTurn_probe hs hw h
  | probing n => cases h; exact workerTurn_probing hs hw
  | connDownStat => cases h; exact workerTurn_connDownStat hs hw
  | connDown => cases h; exact workerTurn_connDown hs hw
  | pollWait => cases h; exact workerTurn_pollWait hs hw
  | pollTest => cases h; exact workerTurn_pollTest hs hw
  | pollAcquire => cases h; exact workerTurn_pollAcquire hs hw
  | pollExchange => exact workerTurn_pollExchange hs hw h
  | pollAwait => cases h; exact workerTurn_pollAwait hs hw
  | pollRelease r => exact workerTurn_pollRelease hs hw h
  | pollAct r => exact workerTurn_pollAct hs hw h
  | leaveStat => cases h; exact .goes hs hw ⟨fun _ => id, nofun, rfl⟩ (leavesWorker_clearStatsByPolicy s)
  | leaveDown => cases h; exact workerTurn_leaveDown hs hw
  | failDown => cases h; exact workerTurn_failDown hs hw
  | failed => cases h; exact workerTurn_failed hs hw
  | stopUnregister => cases h; exact .unregisters hs hw (fun _ _ => rfl) (fun _ => rfl) ⟨nofun, nofun⟩
  | stopGone => cases h; exact workerTurn_stopGone hs hw
  | stopDrain => cases h; exact workerTurn_stopDrain hs hw
  | ended => cases h; exact .of_leaves hs (.rfl' s)
  | leaveUnregister | failUnregister => cases h; exact .unregisters hs hw (fun _ => id) nofun ⟨nofun, nofun⟩
  | connStat | connFetch | connBackoff | leaveGone | failGone =>
    cases h; exact .moves hs hw ⟨fun _ => id, nofun, rfl⟩ rfl rfl rfl

theorem workerTurn_workerStep (hs : workerOk s) (h : workerStep s e = .ok t) : WorkerTurn s t := by
  rcases workerStep_ok h with ⟨-, rfl⟩ | ⟨-, -, hmay, rfl⟩ | ⟨-, -, h⟩
  · exact .of_leaves hs (.rfl' _)
  · exact workerTurn_allocFailure hs hmay
  · exact workerTurn_workerAdvance hs h

/-- What a step of any agent does to the worker's variables; only a turn of the worker changes `conn_state` (R350). -/
theorem workerTurn_step (hs : workerOk s) (h : step s = .next t) :
    WorkerTurn s t ∧ (t.connState ≠ s.connState → ∃ e rest, s.inputs = .worker e :: rest) := by
  obtain ⟨-, hleaves | ⟨e, rest, hin, hturn⟩⟩ := leavesWorker_step h
  · exact ⟨.of_leaves hs hleaves, fun hne => absurd hleaves.connState hne⟩
  · exact ⟨(workerTurn_workerStep (s := { s with inputs := rest }) hs hturn).of_usedUp, fun _ => ⟨e, rest, hin⟩⟩

/-- Settles O54: a state that a step discards stood at the drain, where `workerOk` has `stop` seen and the device
unregistered. -/
theorem drainBeforeFree : Obligations.DrainBeforeFree := by
  refine ⟨fun s t hs h hd => ?_, fun s hd => by simp [step, hd]⟩
  have hlive : s.discarded = false := (leavesWorker_step h).1
  rcases (workerTurn_step hs h).1.discarded hd with hdead | ⟨hw, hdrained⟩
  · simp [hlive] at hdead
  · obtain ⟨hx, ho, hi, hl, -, hm⟩ := drained_eq_true_iff.1 hdrained
    have hreg : ¬ s.registered = true := fun hr => nomatch posRegistered_of_workerOk hs hw hr
    exact ⟨hlive, stop_of_workerOk hs hw rfl, by simpa using hreg, hm, hx, ho, hi, hl⟩

end Sys2Proof.Laws

/-! PROOFS. The turns of the worker (46_poller_and_host.md), one position at a time: what each leaves (R340 to R349, R351 to
R358, R360 to R368), as an equation, whatever inputs are still to come. -/

namespace Sys2Proof.Laws

open Sys2Proof.Machine

variable {s t : State} {e : Env} {w : WorkerPos} {n : Nat} {r : Reply} {d : List Byte}

/-! The housekeeping operations (R340 to R342). -/

theorem lnkRst_of_free (hc : s.portCls = .worker) (hn : s.connState = .initiating) (hx : s.xcvState = .idle)
    (ho : s.linkOwner = .none) : exec .lnkRst s = .next ((linkReset s).answer .ok []) := by
  simp [exec, execLnkRst, hc, hn, hx, ho]

theorem lnkRst_refused (hc : s.portCls = .worker) (hn : s.connState = .initiating)
    (h : s.xcvState ≠ .idle ∨ s.linkOwner ≠ .none) : ∃ r, exec .lnkRst s = .refused r := by
  by_cases hx : s.xcvState = .idle
  · have ho : s.linkOwner ≠ .none := h.resolve_left (not_not.2 hx)
    exact ⟨.linkBusy, by simp [exec, execLnkRst, hc, hn, hx, ho]⟩
  · exact ⟨.sequencerBusy, by simp [exec, execLnkRst, hc, hn, hx]⟩

/-- Neither descriptor is visible after a link reset: both are invalid. -/
theorem visible_linkReset (s : State) : (linkReset s).visible = none := rfl

/-- Settles O48: the two tests of the operation, and the record of `linkReset`. -/
theorem lnkRstResets : Obligations.LnkRstResets := by
  refine fun s hc hn => ⟨fun hx ho => ⟨_, lnkRst_of_free hc hn hx ho, ?_, rfl, rfl, rfl, rfl, rfl, visible_linkReset s⟩,
    lnkRst_refused hc hn⟩
  rw [answer_of_class (s := linkReset s) hc]
  rfl

theorem statClrAdmitted_eq_true_iff : statClrAdmitted s = true ↔
    s.connState = .initiating ∨ (s.connState = .connected ∧ s.cfg.statResetPolicy = .everyTransition) := by
  simp [statClrAdmitted]

/-- Settles O49: the connection state is one that the operation admits. -/
theorem statClrClears : Obligations.StatClrClears := by
  intro s hc hn
  have hclass : ¬ s.portCls ≠ .worker := not_not.2 hc
  have hexec : exec .statClr s = .next ((clearStats s).answer .ok []) :=
    (if_neg hclass).trans (if_pos (statClrAdmitted_eq_true_iff.2 hn))
  rw [hexec, answer_of_class (s := clearStats s) hc]
  rfl

theorem length_beBytes (n v : Nat) : (beBytes n v).length = n := by
  induction n with
  | zero => rfl
  | succ n ih => exact congrArg Nat.succ ih

theorem getElem?_beBytes {n i : Nat} (h : i < n) (v : Nat) :
    (beBytes n v)[i]? = some (BitVec.ofNat 8 (v / 2 ^ (8 * (n - 1 - i)))) := by
  induction n generalizing i with
  | zero => exact absurd h (Nat.not_lt_zero i)
  | succ n ih =>
    cases i with
    | zero => rfl
    | succ i =>
      rw [show n + 1 - 1 - (i + 1) = n - 1 - i by omega]
      exact ih (Nat.lt_of_succ_lt_succ h)

/-- Settles O50: the answer is the counter's `beBytes`, of which each byte is known. -/
theorem statRdAnswers : Obligations.StatRdAnswers := by
  intro s k
  refine ⟨beBytes (counterBytes s.cfg) (s.counter k), rfl, length_beBytes .., fun i hi => ?_⟩
  rw [length_beBytes] at hi ⊢
  rw [getElem?_beBytes hi]
  cases k <;> rfl

/-! A turn of the worker as a step of the slot. -/

/-- The worker's turn goes to its sequences: it is not blocked inside a transaction, and no allocation failure is taken. -/
structure TurnTaken (s : State) : Prop where
  live : live s
  unblocked : workerBlocked s = false
  noFailure : s.allocFailed = true → s.worker.mayFail = false

theorem workerStep_of_unblocked (hb : workerBlocked s = false) (ha : s.allocFailed = true → s.worker.mayFail = false) :
    workerStep s e = workerAdvance s e := by
  have hfail : ¬ (s.allocFailed && s.worker.mayFail) = true := by simpa using ha
  have hblocked : ¬ workerBlocked s = true := by simp [hb]
  rw [workerStep, if_neg hblocked, if_neg hfail]

theorem workerStep_of_allocFailed (hb : workerBlocked s = false) (ha : s.allocFailed = true)
    (hmay : s.worker.mayFail = true) : workerStep s e = .ok (allocFailure s) := by
  simp [workerStep, hb, ha, hmay]

namespace TurnTaken

/-- A turn at the position `w` that leads to `t`. -/
theorem runs (h : TurnTaken s) (hw : s.worker = w)
    (hadv : ∀ rest, workerAdvance { s with inputs := rest, worker := w } e = .ok { t with inputs := rest }) :
    Runs s (.worker e) t := by
  subst hw
  exact runs_of_applyInput h.live nofun fun rest =>
    (workerStep_of_unblocked (s := { s with inputs := rest }) h.unblocked h.noFailure).trans (hadv rest)

/-- A turn at the position `w` after which the worker stands there again. -/
theorem runs_staying (h : TurnTaken s) (hw : s.worker = w) (ht : t.worker = w)
    (hadv : ∀ rest, workerAdvance { s with inputs := rest, worker := w } e = .ok { t with inputs := rest, worker := w }) :
    Runs s (.worker e) t :=
  h.runs hw fun rest => (hadv rest).trans (by rw [← ht])

end TurnTaken

/-! Seeing `stop` (R358, R423). -/

theorem beginStop_of_connected (hc : s.connState = .connected) : beginStop s = s.goWorker .stopUnregister := if_pos hc

theorem beginStop_of_not_connected (hc : s.connState ≠ .connected) : beginStop s = s.goWorker .stopGone := if_neg hc

theorem abandonConnect_of_initiating (hc : s.connState = .initiating) (ho : s.xcvOuter = none) :
    abandonConnect s = { s with fetch := none, xcvReturn := none, worker := .stopGone } := by
  simp [abandonConnect_eq, hc, ho]

/-! The debounce (R351). -/

theorem workerDebounce_of_stop (hs : s.stop = true) (hc : s.connState = .disconnected) :
    workerDebounce s e n = s.goWorker .stopGone :=
  (if_pos hs).trans (beginStop_of_not_connected (by simp [hc]))

theorem workerDebounce_of_absent (hs : s.stop = false) (hp : e.presence = false) :
    workerDebounce s e n = s.goWorker (.debounce 0) := by
  simp [workerDebounce, hs, hp]

theorem workerDebounce_of_counted (hs : s.stop = false) (hp : e.presence = true) (hn : n + 1 < s.cfg.debounceSamples) :
    workerDebounce s e n = s.goWorker (.debounce (n + 1)) := by
  have hlast : ¬ s.cfg.debounceSamples ≤ n + 1 := Nat.not_le.2 hn
  simp [workerDebounce, hs, hp, hlast]

theorem workerDebounce_of_last (hs : s.stop = false) (hp : e.presence = true) (hn : s.cfg.debounceSamples ≤ n + 1) :
    workerDebounce s e n = { s with connState := .initiating, worker := .connStat } := by
  simp [workerDebounce, hs, hp, hn]

/-- Settles O51: `stop`, the presence level and the number of samples decide, in this order. -/
theorem debounceSamples : Obligations.DebounceSamples := by
  intro s e seen hl hw hb ha
  have hturn : TurnTaken s := ⟨hl, hb, by simp [ha]⟩
  refine ⟨fun hs hc => ?_, fun hs => ⟨fun hp => ?_, fun hp hn => ?_, fun hp hn => ?_⟩⟩
  · exact hturn.runs hw fun _ => congrArg Except.ok (workerDebounce_of_stop hs hc)
  · exact hturn.runs hw fun _ => congrArg Except.ok (workerDebounce_of_absent hs hp)
  · exact hturn.runs hw fun _ => congrArg Except.ok (workerDebounce_of_counted hs hp hn)
  · exact hturn.runs hw fun _ => congrArg Except.ok (workerDebounce_of_last hs hp hn)

end Sys2Proof.Laws

/-! PROOFS. One iteration of the poller (R343 to R349): each of its turns, as an equation. -/

namespace Sys2Proof.Laws

open Sys2Proof.Machine

variable {s t : State} {e : Env} {r : Reply} {d : List Byte}

/-! `P1`: the wait (R343, R431). -/

theorem workerPollWait_of_stop (hs : s.stop = true) (hc : s.connState = .connected) :
    workerPollWait s e = { s with readyLatch := false, worker := .stopUnregister } := by
  simp only [workerPollWait, readyWait_state]
  exact (if_pos hs).trans (beginStop_of_connected (s := { s with readyLatch := false }) hc)

theorem workerPollWait_of_set (hs : s.stop = false) (hset : s.readyLatch = true) :
    workerPollWait s e = { s with readyLatch := false, worker := .pollTest } := by
  simp [workerPollWait, readyWait_of_set hset, hs, State.goWorker]

theorem workerPollWait_of_interrupted (hs : s.stop = false) (hclear : s.readyLatch = false) (hi : e.ready = .interrupted) :
    workerPollWait s e = s := by
  simp [workerPollWait, readyWait_of_clear hclear, clearLatchAnswer_eq_interrupted.2 hi, hs]

theorem workerPollWait_of_ne (hs : s.stop = false) (hclear : s.readyLatch = false) (hi : e.ready ≠ .interrupted) :
    workerPollWait s e = s.goWorker .pollTest := by
  simp [workerPollWait, readyWait_of_clear hclear, clearLatchAnswer_eq_interrupted, hi, hs]

/-! `P2` and `P3`: the mailbox and the link (R343, R344, R349). -/

theorem workerPollTest_of_occupied (hm : 0 < s.mbxLen) : workerPollTest s =
    { s with notificationsFailed := bump s.cfg s.notificationsFailed, worker := .pollWait } := if_pos hm

theorem workerPollTest_of_empty (hm : s.mbxLen ≤ 0) : workerPollTest s = s.goWorker .pollAcquire := if_neg (Int.not_lt.2 hm)

theorem workerPollAcquire_of_stop (hs : s.stop = true) (hc : s.connState = .connected) :
    workerPollAcquire s = s.goWorker .stopUnregister :=
  (if_pos hs).trans (beginStop_of_connected hc)

theorem workerPollAcquire_of_free (hs : s.stop = false) (ho : s.linkOwner = .none) (hi : s.fgIntent = 0) :
    workerPollAcquire s = { s with linkOwner := .bg, worker := .pollExchange } := by
  simp [workerPollAcquire, hs, acquireBg_of_free (linkFree_eq_true_iff.2 ⟨ho, hi⟩), State.goWorker]

theorem workerPollAcquire_of_taken (hs : s.stop = false) (h : s.linkOwner ≠ .none ∨ s.fgIntent ≠ 0) :
    workerPollAcquire s = s := by
  simp [workerPollAcquire, hs, acquireBg_of_taken (linkFree_eq_false h)]

/-! `P4`: the pull under the poller's ownership (R191, R343). -/

theorem isMessage_notifReqMsg {c : Config} (hc : c.wf = true) : isMessage c.notifReqMsg = true := by
  simp only [Config.wf, Config.codesOk, fixedMessageOk, Bool.and_eq_true] at hc
  tauto

theorem workerPollExchange_of_owner (hw : s.cfg.wf = true) (hc : s.connState = .connected) (ho : s.linkOwner = .bg)
    (hx : s.xcvState = .idle) :
    workerPollExchange s = .ok ((s.startXchg .poller s.cfg.notifReqMsg).goWorker .pollAwait) := by
  simp [workerPollExchange, require, hc, ho, hx, isMessage_notifReqMsg hw, bind, Except.bind, pure, Except.pure]

theorem workerPollAwait_of_none (hr : s.xcvReturn = none) : workerPollAwait s = s := by simp [workerPollAwait, hr]

theorem workerPollAwait_of_some (hr : s.xcvReturn = some r) :
    workerPollAwait s = { s with xcvReturn := none, worker := .pollRelease r } := by
  simp [workerPollAwait, hr]

theorem workerPollRelease_of_owner (ho : s.linkOwner = .bg) (hx : s.xcvState = .idle) :
    workerPollRelease s r = .ok { s with linkOwner := .none, worker := .pollAct r } := by
  rw [workerPollRelease, releaseBg_of_owner ho hx]
  rfl

/-! `P5`: what the pull's result decides (R345 to R348). -/

theorem workerPollAct_of_body (hok : r.status = .ok) (hlen : 4 < r.data.length)
    (hmax : r.data.length ≤ s.cfg.maximumFrameSize - 2) (hm : s.mbxLen = 0) :
    workerPollAct s e r = .ok ((posted s r.data).goWorker .pollWait) := by
  have hbody : r.status = .ok ∧ headerSize < r.data.length := ⟨hok, hlen⟩
  rw [workerPollAct, if_pos hbody, postMailbox_of_empty hm hmax]
  rfl

theorem workerPollAct_of_no_body (h : r.status ≠ .ok ∨ r.data.length ≤ 4) :
    workerPollAct s e r = .ok (s.goWorker (if e.presence then .pollWait else .leaveUnregister)) := by
  have hbody : ¬ (r.status = .ok ∧ headerSize < r.data.length) := fun ⟨hok, hlen⟩ =>
    h.elim (absurd hok) (Nat.not_le.2 hlen)
  rw [workerPollAct, if_neg hbody]
  split <;> rfl

theorem workerPollAct_of_present (h : r.status ≠ .ok ∨ r.data.length ≤ 4) (hp : e.presence = true) :
    workerPollAct s e r = .ok (s.goWorker .pollWait) := by
  rw [workerPollAct_of_no_body h, if_pos hp]

theorem workerPollAct_of_absent (h : r.status ≠ .ok ∨ r.data.length ≤ 4) (hp : e.presence = false) :
    workerPollAct s e r = .ok (s.goWorker .leaveUnregister) := by
  rw [workerPollAct_of_no_body h, if_neg (by simp [hp])]

/-- Settles O52: one equation for each of the poller's turns. -/
theorem pollIteration : Obligations.PollIteration := by
  intro s e hl hc hb ha
  have ⟨_, hwf⟩ := hl
  have hturn : TurnTaken s := ⟨hl, hb, ha⟩
  refine ⟨fun hw => ⟨fun hs => ?_, fun hs hset => ?_, fun hs hclear hi => ?_, fun hs hclear hi => ?_⟩,
    fun hw => ⟨fun hm => ?_, fun hm => ?_⟩, fun hw => ⟨fun hs => ?_, fun hs ho hi => ?_, fun hs h => ?_⟩,
    fun hw ho hx => ?_, fun hw => ⟨fun hr => ?_, fun r hr => ?_⟩, fun r hw ho hx => ?_,
    fun r hw => ⟨fun hok hlen hmax hm => ?_, fun h hp => ?_, fun h hp => ?_⟩⟩
  · exact hturn.runs hw fun _ => congrArg Except.ok (workerPollWait_of_stop hs hc)
  · exact hturn.runs hw fun _ => congrArg Except.ok (workerPollWait_of_set hs hset)
  · exact hturn.runs_staying hw hw fun _ => congrArg Except.ok (workerPollWait_of_interrupted hs hclear hi)
  · exact hturn.runs hw fun _ => congrArg Except.ok (workerPollWait_of_ne hs hclear hi)
  · exact hturn.runs hw fun _ => congrArg Except.ok (workerPollTest_of_occupied hm)
  · exact hturn.runs hw fun _ => congrArg Except.ok (workerPollTest_of_empty hm)
  · exact hturn.runs hw fun _ => congrArg Except.ok (workerPollAcquire_of_stop hs hc)
  · exact hturn.runs hw fun _ => congrArg Except.ok (workerPollAcquire_of_free hs ho hi)
  · exact hturn.runs_staying hw hw fun _ => congrArg Except.ok (workerPollAcquire_of_taken hs h)
  · exact hturn.runs hw fun _ => workerPollExchange_of_owner hwf hc ho hx
  · exact hturn.runs_staying hw hw fun _ => congrArg Except.ok (workerPollAwait_of_none hr)
  · exact hturn.runs hw fun _ => congrArg Except.ok (workerPollAwait_of_some hr)
  · exact hturn.runs hw fun _ => workerPollRelease_of_owner ho hx
  · exact ⟨(posted s r.data).goWorker .pollWait, hturn.runs hw fun _ => workerPollAct_of_body hok hlen hmax hm, rfl,
      get_write_zero rfl⟩
  · exact hturn.runs hw fun _ => workerPollAct_of_present h hp
  · exact hturn.runs hw fun _ => workerPollAct_of_absent h hp

end Sys2Proof.Laws

/-! PROOFS. `CONNECT` with its fetch and its probe, the way out of `Connected`, allocation failure and shutdown (R352 to R358,
R360 to R368): each turn as an equation. -/

namespace Sys2Proof.Laws

open Sys2Proof.Machine

variable {s t : State} {e : Env} {w w' : WorkerPos} {n : Nat} {r : Reply} {st : FetchState} {f : DescField}
  {rest : List DescField}

/-! The fetch of a fresh connect (R360 to R368). -/

theorem descReqOk_eq_true_iff {c : Config} {m : List Byte} : descReqOk c m = true ↔
    isMessage m = true ∧ m.length ≤ c.frameSizeMin - 2 ∧ matchesSomeShape c m = false := by
  simp [descReqOk, and_assoc]

/-- The worker in `Initiating` asks for the current field without the arbiter (R191, R361). -/
theorem fetchStep_of_fresh (hf : s.fetch = some st) (ht : st.todo = f :: rest) (ha : st.awaiting = false)
    (hx : s.xcvState = .idle) (ho : s.xcvOuter = none) (hc : s.connState = .initiating) (hl : s.linkOwner = .none) :
    fetchStep s e = .ok
      ({ s.startXchg .fetcher (descReq s.cfg f st.chunk) with fetch := some { st with awaiting := true } }, .running) := by
  have hfree : s.sequencerFree = true := by simp [State.sequencerFree, ho, hx]
  have huse : fetcherMayUseLink s = true := by simp [fetcherMayUseLink, hc, hl]
  have hawait : ¬ st.awaiting = true := by simp [ha]
  have hissue : fetchStep s e = fetchIssue s st f := by simp only [fetchStep, hf, ht, if_neg hawait, if_pos hfree]
  exact hissue.trans (bind_of_ok (if_pos huse) _)

theorem workerConnFetching_of_stop (hs : s.stop = true) (hc : s.connState = .initiating) (ho : s.xcvOuter = none) :
    workerConnFetching s e = .ok { s with fetch := none, xcvReturn := none, worker := .stopGone } :=
  (if_pos hs).trans (congrArg Except.ok (abandonConnect_of_initiating hc ho))

section Fetching

variable (hs : s.stop = false)

include hs

theorem workerConnFetching_of_running (h : fetchStep s e = .ok (t, .running)) : workerConnFetching s e = .ok t :=
  (if_neg (by simp [hs])).trans (bind_of_ok h _)

theorem workerConnFetching_of_ok (h : fetchStep s e = .ok (t, .ok)) :
    workerConnFetching s e = .ok (t.goWorker .connRegister) :=
  (if_neg (by simp [hs])).trans (bind_of_ok h _)

theorem workerConnFetching_of_failed (h : fetchStep s e = .ok (t, .failed)) :
    workerConnFetching s e = .ok (t.goWorker (.probe 0)) :=
  (if_neg (by simp [hs])).trans (bind_of_ok h _)

/-- The fetch that has every field publishes its scratch record, under a new `rid` (R367, R368). -/
theorem workerConnFetching_of_complete (hf : s.fetch = some st) (ht : st.todo = []) (hrid : st.preserveRid = 0) :
    workerConnFetching s e = .ok { s with
      descCur := { st.scratch with rid := drawRid e.rid st.prevRid, valid := true }
      fetch := none
      worker := .connRegister } := by
  have hpublish : fetchStep s e = .ok
      ({ s with descCur := { st.scratch with rid := drawRid e.rid st.prevRid, valid := true }, fetch := none }, .ok) := by
    rw [fetchStep_of_complete hf ht, fetchPublish, if_pos hrid]
  exact workerConnFetching_of_ok hs hpublish

theorem workerConnFetching_of_fresh (hf : s.fetch = some st) (ht : st.todo = f :: rest) (ha : st.awaiting = false)
    (hx : s.xcvState = .idle) (ho : s.xcvOuter = none) (hc : s.connState = .initiating) (hl : s.linkOwner = .none) :
    workerConnFetching s e = .ok { s with
      xcvState := .s1Check
      xcvOperand := descReq s.cfg f st.chunk
      xcvCaller := .fetcher
      fetch := some { st with awaiting := true } } :=
  workerConnFetching_of_running hs (fetchStep_of_fresh hf ht ha hx ho hc hl)

theorem workerConnFetching_of_fieldTaken {st' : FetchState} (hf : s.fetch = some st) (ht : st.todo = f :: rest)
    (ha : st.awaiting = true) (hr : s.xcvReturn = some r) (htaken : fieldTaken s.cfg st f rest r st') :
    workerConnFetching s e = .ok { s with xcvReturn := none, fetch := some st' } :=
  workerConnFetching_of_running hs <|
    (fetchStep_of_result hf ht ha hr).trans (congrArg Except.ok (fetchTake_of_fieldTaken htaken))

/-- A failed field ends the fetch, and the probe begins (R353, R365). -/
theorem workerConnFetching_of_fieldFails (hf : s.fetch = some st) (ht : st.todo = f :: rest)
    (ha : st.awaiting = true) (hr : s.xcvReturn = some r) (hfails : fieldFails s.cfg st f r) :
    workerConnFetching s e = .ok { s with
      xcvReturn := none
      descriptorFailed := bump s.cfg s.descriptorFailed
      fetch := none
      worker := .probe 0 } :=
  workerConnFetching_of_failed hs <|
    (fetchStep_of_result hf ht ha hr).trans (congrArg Except.ok (fetchTake_of_fieldFails hfails))

end Fetching

/-- Settles O55: one case for each place where the fetch can stand, as in a refresh (`refreshEnds`). -/
theorem freshFetch : Obligations.FreshFetch := by
  refine ⟨fun c f i hc => descReqOk_eq_true_iff.1 (descReq_ok hc f i), fun s e hl hb ha => ?_⟩
  have hturn : TurnTaken s := ⟨hl, hb, by simp [ha]⟩
  refine ⟨fun hw => ?_, fun hw hs hc ho => ?_, fun st hw hs hf => ⟨fun ht hrid => ?_, fun f rest ht =>
    ⟨fun ha hx ho hc hl => ?_, fun ha hr => ?_, fun r ha hr => ⟨fun st' htaken => ?_, fun hfails => ?_⟩⟩⟩⟩
  · exact ⟨workerConnFetch s, hturn.runs hw fun _ => rfl, rfl, rfl, rfl, _, rfl, rfl, rfl, rfl, rfl, rfl, rfl, rfl⟩
  · exact hturn.runs hw fun _ => workerConnFetching_of_stop hs hc ho
  · obtain ⟨hzero, hprev⟩ := drawRid_ne e.rid st.prevRid
    exact ⟨drawRid e.rid st.prevRid, hzero, hprev, drawRid_of_candidate,
      hturn.runs hw fun _ => workerConnFetching_of_complete hs hf ht hrid⟩
  · exact hturn.runs_staying hw hw fun _ => workerConnFetching_of_fresh hs hf ht ha hx ho hc hl
  · exact hturn.runs_staying hw hw fun _ => workerConnFetching_of_running hs (fetchStep_of_waiting hf ht ha hr)
  · exact hturn.runs_staying hw hw fun inputs =>
      workerConnFetching_of_fieldTaken (s := { s with inputs := inputs, worker := .connFetching }) hs hf ht ha hr htaken
  · exact hturn.runs hw fun _ => workerConnFetching_of_fieldFails hs hf ht ha hr hfails

/-! `CONNECT` up to the fetch, and registration (R352, R357). -/

theorem workerConnReset_of_stop (hs : s.stop = true) (hc : s.connState = .initiating) :
    workerConnReset s = s.goWorker .stopGone :=
  (if_pos hs).trans (beginStop_of_not_connected (by simp [hc]))

theorem workerConnReset_of_free (hs : s.stop = false) (hx : s.xcvState = .idle) (ho : s.linkOwner = .none) :
    workerConnReset s = (linkReset s).goWorker .connMailbox := by
  simp [workerConnReset, hs, hx, ho]

theorem workerConnReset_of_busy (hs : s.stop = false) (h : s.xcvState ≠ .idle ∨ s.linkOwner ≠ .none) :
    workerConnReset s = s := by
  have hbusy : ¬ (s.xcvState = .idle ∧ s.linkOwner = .none) := by tauto
  simp [workerConnReset, hs, hbusy]

theorem workerConnMailbox_of_stop (hs : s.stop = true) (hc : s.connState = .initiating) :
    workerConnMailbox s = s.goWorker .stopGone :=
  (if_pos hs).trans (beginStop_of_not_connected (by simp [hc]))

theorem workerConnMailbox_of_vacant (hs : s.stop = false) (hi : s.mbxInside = none) (hh : s.mbxHeld = []) :
    workerConnMailbox s = { s with mbxLen := 0, worker := .connFetch } := by
  simp [workerConnMailbox, hs, mailboxVacant_eq_true_iff.2 ⟨hi, hh⟩, clearMailbox, State.goWorker]

theorem workerConnMailbox_of_inUse (hs : s.stop = false) (h : s.mbxInside ≠ none ∨ s.mbxHeld ≠ []) :
    workerConnMailbox s = s := by
  simp [workerConnMailbox, hs, mailboxVacant_eq_false h]

theorem workerConnRegister_of_ok (h : e.registerOk = true) :
    workerConnRegister s e = { s with registered := true, worker := .connUpStat } := if_pos h

theorem workerConnRegister_of_fault (h : e.registerOk = false) :
    workerConnRegister s e = { s with connState := .failed, worker := .failed } := if_neg (by simp [h])

/-! The `STAT.CLR` of a transition other than `Disconnected -> Initiating` (R357). -/

theorem clearStatsByPolicy_of_everyTransition (h : s.cfg.statResetPolicy = .everyTransition) :
    clearStatsByPolicy s = clearStats s := by
  simp [clearStatsByPolicy, h]

theorem clearStatsByPolicy_of_leaveDisconnected (h : s.cfg.statResetPolicy = .leaveDisconnected) :
    clearStatsByPolicy s = s := by
  simp [clearStatsByPolicy, h]

/-- The three positions whose turn is such a `STAT.CLR`, each with the one that follows it. -/
theorem workerAdvance_clears
    (h : (w, w') ∈ [(WorkerPos.connUpStat, WorkerPos.connUp), (.connDownStat, .connDown), (.leaveStat, .leaveDown)])
    (hw : s.worker = w) (hs : w = .connDownStat → s.stop = false) :
    workerAdvance s e = .ok ((clearStatsByPolicy s).goWorker w') := by
  simp only [List.mem_cons, Prod.mk.injEq, List.not_mem_nil, or_false] at h
  obtain ⟨rfl, rfl⟩ | ⟨rfl, rfl⟩ | ⟨rfl, rfl⟩ := h
  · simp only [workerAdvance, hw, workerConnUpStat]
  · simp [workerAdvance, hw, workerConnDownStat, hs rfl]
  · simp only [workerAdvance, hw, workerLeaveStat]

theorem workerConnDownStat_of_stop (hs : s.stop = true) (hc : s.connState = .initiating) (ho : s.xcvOuter = none) :
    workerConnDownStat s = { s with fetch := none, xcvReturn := none, worker := .stopGone } :=
  (if_pos hs).trans (abandonConnect_of_initiating hc ho)

/-! The probe (R353). -/

theorem workerProbe_of_stop (hs : s.stop = true) (hc : s.connState = .initiating) (ho : s.xcvOuter = none) :
    workerProbe s n = .ok { s with fetch := none, xcvReturn := none, worker := .stopGone } :=
  (if_pos hs).trans (congrArg Except.ok (abandonConnect_of_initiating hc ho))

theorem workerProbe_of_free (hs : s.stop = false) (hc : s.connState = .initiating) (ho : s.linkOwner = .none)
    (hx : s.xcvState = .idle) :
    workerProbe s n = .ok ((s.startXchg .probe (descReq s.cfg .protoVersion 0)).goWorker (.probing n)) := by
  simp [workerProbe, require, hs, hc, ho, hx, bind, Except.bind, pure, Except.pure]

theorem workerProbing_of_stop (hr : s.xcvReturn = some r) (hs : s.stop = true) (hc : s.connState = .initiating)
    (ho : s.xcvOuter = none) :
    workerProbing s n = { s with fetch := none, xcvReturn := none, worker := .stopGone } := by
  simp [workerProbing, hr, hs, abandonConnect_of_initiating hc ho]

theorem workerProbing_of_last (hr : s.xcvReturn = some r) (hs : s.stop = false)
    (h : r.status = .ok ∨ s.cfg.resyncRetries ≤ n + 1) :
    workerProbing s n = { s with xcvReturn := none, worker := .connBackoff } := by
  by_cases hok : r.status = .ok
  · simp [workerProbing, hr, hs, hok, State.goWorker]
  · have hlast : ¬ n + 1 < s.cfg.resyncRetries := Nat.not_lt.2 (h.resolve_left hok)
    simp [workerProbing, hr, hs, hok, hlast, State.goWorker]

theorem workerProbing_of_retry (hr : s.xcvReturn = some r) (hs : s.stop = false) (hok : r.status ≠ .ok)
    (hn : n + 1 < s.cfg.resyncRetries) :
    workerProbing s n = { s with xcvReturn := none, worker := .probe (n + 1) } := by
  simp [workerProbing, hr, hs, hok, hn, State.goWorker]

/-! `Failed`, the drain and an allocation failure (R356, R358, R466). -/

theorem workerFailed_of_stop (hs : s.stop = true) (hc : s.connState = .failed) : workerFailed s = s.goWorker .stopGone :=
  (if_pos hs).trans (beginStop_of_not_connected (by simp [hc]))

theorem workerFailed_of_not_stop (hs : s.stop = false) : workerFailed s = s := if_neg (by simp [hs])

theorem workerStopDrain_of_drained (h : drained s = true) :
    workerStopDrain s = { s with discarded := true, worker := .ended } := if_pos h

theorem workerStopDrain_of_not_drained (h : ¬ drained s = true) : workerStopDrain s = s := if_neg h

theorem allocFailure_of_connected (hc : s.connState = .connected) :
    allocFailure s = s.goWorker (if s.registered then .failUnregister else .failGone) := if_pos hc

theorem allocFailure_of_not_connected (hc : s.connState ≠ .connected) (ho : s.xcvOuter = none) :
    allocFailure s = { s with connState := .failed, fetch := none, xcvReturn := none, worker := .failed } := by
  simp [allocFailure, hc, dropSequence, ho]

theorem runs_allocFailure (hl : live s) (hb : workerBlocked s = false) (ha : s.allocFailed = true)
    (hmay : s.worker.mayFail = true)
    (h : ∀ rest, allocFailure { s with inputs := rest } = { t with inputs := rest }) : Runs s (.worker e) t :=
  runs_of_applyInput hl nofun fun rest =>
    (workerStep_of_allocFailed (s := { s with inputs := rest }) hb ha hmay).trans (congrArg Except.ok (h rest))

end Sys2Proof.Laws

/-! PROOFS. The transition table and the actions of each transition (R350, R352 to R358), put together. -/

namespace Sys2Proof.Laws

open Sys2Proof.Machine

variable {s : State} {e : Env} {w w' : WorkerPos}

theorem workerOk_reset : workerOk State.reset := ⟨rfl, nofun, nofun, nofun⟩

namespace TurnTaken

/-- `CONNECT` is left at `stop` after the wait for the link and after the wait for the last consumers (R358, R423). -/
theorem runs_stop_before_fetch (h : TurnTaken s) (hw : s.worker = .connReset ∨ s.worker = .connMailbox)
    (hs : s.stop = true) (hc : s.connState = .initiating) : Runs s (.worker e) { s with worker := .stopGone } := by
  rcases hw with hw | hw
  · exact h.runs hw fun _ => congrArg Except.ok (workerConnReset_of_stop hs hc)
  · exact h.runs hw fun _ => congrArg Except.ok (workerConnMailbox_of_stop hs hc)

/-- `CONNECT` is left at `stop` around each attempt of the probe and after the backoff (R358, R423). -/
theorem runs_stop_in_probe (h : TurnTaken s)
    (hw : (∃ n, s.worker = .probe n) ∨ (∃ n r, s.worker = .probing n ∧ s.xcvReturn = some r) ∨ s.worker = .connDownStat)
    (hs : s.stop = true) (hc : s.connState = .initiating) (ho : s.xcvOuter = none) :
    Runs s (.worker e) { s with fetch := none, xcvReturn := none, worker := .stopGone } := by
  rcases hw with ⟨n, hw⟩ | ⟨n, r, hw, hr⟩ | hw
  · exact h.runs hw fun _ => workerProbe_of_stop hs hc ho
  · exact h.runs hw fun _ => congrArg Except.ok (workerProbing_of_stop hr hs hc ho)
  · exact h.runs hw fun _ => congrArg Except.ok (workerConnDownStat_of_stop hs hc ho)

theorem runs_clears (h : TurnTaken s)
    (hmem : (w, w') ∈ [(WorkerPos.connUpStat, WorkerPos.connUp), (.connDownStat, .connDown), (.leaveStat, .leaveDown)])
    (hw : s.worker = w) (hs : w = .connDownStat → s.stop = false) :
    (s.cfg.statResetPolicy = .everyTransition → Runs s (.worker e) ((clearStats s).goWorker w')) ∧
      (s.cfg.statResetPolicy = .leaveDisconnected → Runs s (.worker e) (s.goWorker w')) := by
  refine ⟨fun hp => h.runs hw fun rest => ?_, fun hp => h.runs hw fun rest => ?_⟩ <;>
    refine (workerAdvance_clears (s := { s with inputs := rest, worker := w }) hmem rfl hs).trans ?_
  · rw [clearStatsByPolicy_of_everyTransition (s := { s with inputs := rest, worker := w }) hp]
    rfl
  · rw [clearStatsByPolicy_of_leaveDisconnected (s := { s with inputs := rest, worker := w }) hp]
    rfl

theorem runs_unregisters (h : TurnTaken s)
    (hmem : (w, w') ∈ [(WorkerPos.leaveUnregister, WorkerPos.leaveGone), (.failUnregister, .failGone),
      (.stopUnregister, .stopGone)]) (hw : s.worker = w) : Runs s (.worker e) (workerUnregister s w') := by
  simp only [List.mem_cons, Prod.mk.injEq, List.not_mem_nil, or_false] at hmem
  obtain ⟨rfl, rfl⟩ | ⟨rfl, rfl⟩ | ⟨rfl, rfl⟩ := hmem <;> exact h.runs hw fun _ => rfl

theorem runs_gone (h : TurnTaken s)
    (hmem : (w, w') ∈ [(WorkerPos.leaveGone, WorkerPos.leaveStat), (.failGone, .failDown), (.stopGone, .stopDrain)])
    (hw : s.worker = w) : Runs s (.worker e) (workerGone s w') := by
  simp only [List.mem_cons, Prod.mk.injEq, List.not_mem_nil, or_false] at hmem
  obtain ⟨rfl, rfl⟩ | ⟨rfl, rfl⟩ | ⟨rfl, rfl⟩ := hmem <;> exact h.runs hw fun _ => rfl

/-- The drain ends once nothing is in flight, and waits until then (R358, R466). -/
theorem runs_stopDrain (h : TurnTaken s) (hw : s.worker = .stopDrain) :
    (drained s = true → Runs s (.worker e) { s with discarded := true, worker := .ended }) ∧
      (¬ drained s = true → Runs s (.worker e) s) :=
  ⟨fun hd => h.runs hw fun _ => congrArg Except.ok (workerStopDrain_of_drained hd),
    fun hd => h.runs_staying hw hw fun _ => congrArg Except.ok (workerStopDrain_of_not_drained hd)⟩

end TurnTaken

/-- Settles O53: the invariant is `workerTurn_step`; then one equation for each turn, in the order of the statement. -/
theorem connStateTransitions : Obligations.ConnStateTransitions := by
  refine ⟨⟨workerOk_reset, rfl⟩, fun s t hs h => ?_, fun s e hl hb ha => ?_, fun s e hl => ⟨?_, ?_, fun hb ha hmay => ?_⟩⟩
  · obtain ⟨hturn, honly⟩ := workerTurn_step hs h
    exact ⟨hturn.ok, fun hne => ⟨hturn.conn.resolve_left hne, honly hne⟩⟩
  · have hturn : TurnTaken s := ⟨hl, hb, ha⟩
    refine ⟨fun hw => hturn.runs hw fun _ => rfl, fun hw hs => ⟨fun hx ho => ?_, fun hbusy => ?_⟩,
      fun hw hs => ⟨fun hi hh => ?_, fun huse => ?_⟩, hturn.runs_stop_before_fetch, hturn.runs_stop_in_probe,
      fun hw => ⟨fun hok => ?_, fun hfault => ?_⟩, fun w w' => hturn.runs_clears, fun hw => hturn.runs hw fun _ => rfl,
      fun n hw hs hc ho hx => ?_, fun n r hw hs hr => ⟨fun hlast => ?_, fun hok hn => ?_⟩,
      fun hw => hturn.runs hw fun _ => rfl, fun hw => hturn.runs hw fun _ => rfl, fun w w' => hturn.runs_unregisters,
      fun w w' => hturn.runs_gone, fun hw => hturn.runs hw fun _ => rfl, fun hw => hturn.runs hw fun _ => rfl,
      fun hw => ⟨fun hs => ?_, fun hs hc => ?_⟩, fun hw => ⟨fun hx ho hi hk hh hm => ?_, fun hbusy => ?_⟩⟩
    · exact ⟨(linkReset s).goWorker .connMailbox,
        hturn.runs hw fun _ => congrArg Except.ok (workerConnReset_of_free hs hx ho), rfl, visible_linkReset s, rfl⟩
    · exact hturn.runs_staying hw hw fun _ => congrArg Except.ok (workerConnReset_of_busy hs hbusy)
    · exact hturn.runs hw fun _ => congrArg Except.ok (workerConnMailbox_of_vacant hs hi hh)
    · exact hturn.runs_staying hw hw fun _ => congrArg Except.ok (workerConnMailbox_of_inUse hs huse)
    · exact hturn.runs hw fun _ => congrArg Except.ok (workerConnRegister_of_ok hok)
    · exact hturn.runs hw fun _ => congrArg Except.ok (workerConnRegister_of_fault hfault)
    · exact hturn.runs hw fun _ => workerProbe_of_free hs hc ho hx
    · exact hturn.runs hw fun _ => congrArg Except.ok (workerProbing_of_last hr hs hlast)
    · exact hturn.runs hw fun _ => congrArg Except.ok (workerProbing_of_retry hr hs hok hn)
    · exact hturn.runs_staying hw hw fun _ => congrArg Except.ok (workerFailed_of_not_stop hs)
    · exact hturn.runs hw fun _ => congrArg Except.ok (workerFailed_of_stop hs hc)
    · exact (hturn.runs_stopDrain hw).1 (drained_eq_true_iff.2 ⟨hx, ho, hi, hk, hh, hm⟩)
    · refine (hturn.runs_stopDrain hw).2 fun hd => ?_
      obtain ⟨hx, ho, hi, hk, hh, hm⟩ := drained_eq_true_iff.1 hd
      simp [hx, ho, hi, hk, hh, hm] at hbusy
  · exact runs_of_applyInput hl nofun fun _ => rfl
  · exact runs_of_applyInput hl nofun fun _ => rfl
  · refine ⟨fun hc hr => ?_, fun hc hr => ?_, fun hc ho => ?_⟩
    · exact runs_allocFailure hl hb ha hmay fun rest => by
        rw [allocFailure_of_connected (s := { s with inputs := rest }) hc, if_pos hr]
        rfl
    · exact runs_allocFailure hl hb ha hmay fun rest => by
        rw [allocFailure_of_connected (s := { s with inputs := rest }) hc, if_neg (by simp [hr])]
        rfl
    · exact runs_allocFailure hl hb ha hmay fun _ => allocFailure_of_not_connected hc ho

end Sys2Proof.Laws

/-! PROOFS. The exceptions (60_exceptions.md): everything that a step can do to `transmission_errors` (R412). The failure exit
of a transaction counts, the poller's `XCV.XCHG` in `Failed` counts, `STAT.CLR` clears, and the rest leave the counter. -/

namespace Sys2Proof.Laws

open Sys2Proof.Machine

variable {s t : State} {e : Env} {i : Instr}

/-! The parts of a transaction's steps (R200): each leaves the counter. -/

theorem memWrite_transmissionErrors {b : BufName} {off : Nat} {v : List Byte} (h : memWrite s b off v = .ok t) :
    t.transmissionErrors = s.transmissionErrors := by
  obtain ⟨rfl, -⟩ := memWrite_ok h
  cases b <;> rfl

theorem storeFrame_transmissionErrors {f : List Byte} (h : storeFrame s f = .ok t) :
    t.transmissionErrors = s.transmissionErrors := by
  obtain ⟨rfl, -⟩ := storeFrame_ok h
  rfl

theorem exchange_transmissionErrors {dst : BufName} {r : State × Bool} (h : exchange s e dst = .ok r) :
    r.1.transmissionErrors = s.transmissionErrors := by
  obtain ⟨tx, -, -, hw⟩ := exchange_ok h
  exact (memWrite_transmissionErrors hw :)

/-- After an exchange the transaction fails or goes on; a failure is not counted before `FAIL` (R219). -/
theorem afterExchange_transmissionErrors {dst : BufName} {r : State × Bool} {next : State → State}
    (hr : exchange s e dst = .ok r) (hn : ∀ u, (next u).transmissionErrors = u.transmissionErrors) :
    (afterExchange next r).transmissionErrors = s.transmissionErrors := by
  have hexchange := exchange_transmissionErrors hr
  unfold afterExchange
  split
  split
  · exact hexchange
  · exact (hn _).trans hexchange

@[simp] theorem readyWait_transmissionErrors (s : State) (w : Option Nat) (a : ReadyAnswer) :
    (readyWait s w a).1.transmissionErrors = s.transmissionErrors := by
  rw [readyWait_state]

@[simp] theorem returnXchg_transmissionErrors (s : State) (r : Reply) :
    (s.returnXchg r).transmissionErrors = s.transmissionErrors := by
  rw [returnXchg_eq]

@[simp] theorem endRefresh_transmissionErrors (s : State) :
    (endRefresh s).transmissionErrors = s.transmissionErrors := by
  unfold endRefresh
  split <;> rfl

theorem fetchStep_transmissionErrors {r : State × FetchEnd} (h : fetchStep s e = .ok r) :
    r.1.transmissionErrors = s.transmissionErrors := by
  rcases fetchStep_ok h with rfl | ⟨st, -, ⟨-, rfl⟩ | ⟨f, rest, -, ⟨-, p, -, rfl⟩ | ⟨-, -, h⟩⟩⟩
  · rfl
  · rfl
  · obtain ⟨n, g, heq⟩ := fetchTake_frame s st f rest p
    rw [heq]
  · obtain ⟨-, rfl⟩ := fetchIssue_ok h
    rfl

/-! The sequencer (R221): every state but `FAIL` leaves the counter. -/

theorem xcvS1Check_transmissionErrors (h : xcvS1Check s = .ok t) : t.transmissionErrors = s.transmissionErrors := by
  unfold xcvS1Check at h
  split at h
  · cases h; rfl
  · obtain ⟨u, hu, h⟩ := bind_ok.1 h
    cases h
    exact (memWrite_transmissionErrors hu :)

theorem xcvS2Send_transmissionErrors (h : xcvS2Send s e = .ok t) : t.transmissionErrors = s.transmissionErrors := by
  unfold xcvS2Send at h
  obtain ⟨m, -, h⟩ := bind_ok.1 h
  split at h
  · cases h; rfl
  · obtain ⟨u, hu, h⟩ := bind_ok.1 h
    obtain ⟨r, hr, h⟩ := bind_ok.1 h
    cases h
    exact .trans (afterExchange_transmissionErrors hr fun _ => rfl) (storeFrame_transmissionErrors hu :)

theorem xcvS3aWait_transmissionErrors (s : State) (e : Env) :
    (xcvS3aWait s e).transmissionErrors = s.transmissionErrors := by
  have hwait := readyWait_transmissionErrors s (some s.vars.timeoutMs) e.ready
  unfold xcvS3aWait
  split <;> next heq => rw [heq] at hwait; exact hwait

theorem xcvS3bPoll_transmissionErrors (h : xcvS3bPoll s e = .ok t) : t.transmissionErrors = s.transmissionErrors := by
  unfold xcvS3bPoll at h
  split at h
  · obtain ⟨f, -, h⟩ := bind_ok.1 h
    obtain ⟨u, hu, h⟩ := bind_ok.1 h
    cases h
    exact (memWrite_transmissionErrors hu :)
  · split at h
    · cases h; rfl
    · obtain ⟨u, hu, h⟩ := bind_ok.1 h
      obtain ⟨r, hr, h⟩ := bind_ok.1 h
      cases h
      exact .trans (afterExchange_transmissionErrors hr fun _ => rfl) (storeFrame_transmissionErrors hu)

theorem xcvS3bSidewait_transmissionErrors (s : State) (e : Env) :
    (xcvS3bSidewait s e).transmissionErrors = s.transmissionErrors := by
  have hwait := readyWait_transmissionErrors s (some s.cfg.tSideMs) e.ready
  unfold xcvS3bSidewait
  split <;> next heq => rw [heq] at hwait; exact hwait

theorem xcvS3bSide_transmissionErrors (h : xcvS3bSide s e = .ok t) : t.transmissionErrors = s.transmissionErrors := by
  unfold xcvS3bSide at h
  obtain ⟨r, hr, h⟩ := bind_ok.1 h
  split at h
  · cases h
    exact exchange_transmissionErrors hr
  · obtain ⟨f, -, h⟩ := bind_ok.1 h
    cases h
    exact exchange_transmissionErrors hr

theorem xcvS3dAck_transmissionErrors (h : xcvS3dAck s = .ok t) : t.transmissionErrors = s.transmissionErrors := by
  unfold xcvS3dAck at h
  split at h
  · cases h; rfl
  · obtain ⟨f, -, h⟩ := bind_ok.1 h
    repeat' split at h
    all_goals cases h; rfl

theorem xcvS3gRefresh_transmissionErrors (h : xcvS3gRefresh s e = .ok t) :
    t.transmissionErrors = s.transmissionErrors := by
  unfold xcvS3gRefresh at h
  obtain ⟨r, hr, h⟩ := bind_ok.1 h
  have hfetch := fetchStep_transmissionErrors hr
  split at h <;> cases h
  · exact hfetch
  · exact (endRefresh_transmissionErrors r.1).trans hfetch
  · exact (endRefresh_transmissionErrors r.1).trans hfetch

theorem xcvRetx_transmissionErrors (h : xcvRetx s e = .ok t) : t.transmissionErrors = s.transmissionErrors := by
  unfold xcvRetx at h
  dsimp only at h
  split at h
  · obtain ⟨r, hr, h⟩ := bind_ok.1 h
    cases h
    exact .trans (afterExchange_transmissionErrors hr fun _ => rfl) rfl
  · cases h; rfl

theorem xcvDone_transmissionErrors (h : xcvDone s = .ok t) : t.transmissionErrors = s.transmissionErrors := by
  unfold xcvDone at h
  obtain ⟨m, -, h⟩ := bind_ok.1 h
  obtain ⟨u, hu, h⟩ := bind_ok.1 h
  cases h
  exact (returnXchg_transmissionErrors _ _).trans (memWrite_transmissionErrors hu :)

/-- The failure exit adds 1, whoever issued the transaction (R219). -/
theorem xcvStep_transmissionErrors_of_fail (hx : s.xcvState = .fail) (h : xcvStep s e = .ok t) :
    t.transmissionErrors = bump s.cfg s.transmissionErrors := by
  rw [xcvStep_fail hx] at h
  cases h
  exact returnXchg_transmissionErrors _ _

/-- The checks of the primary frame and of its message read and go on or fail; the other states are one lemma each. -/
theorem xcvStep_transmissionErrors_of_ne_fail (hx : s.xcvState ≠ .fail) (h : xcvStep s e = .ok t) :
    t.transmissionErrors = s.transmissionErrors := by
  unfold xcvStep at h
  generalize s.xcvState = x at h hx
  cases x with
  | idle => cases h; rfl
  | s1Check => exact xcvS1Check_transmissionErrors h
  | s2Send => exact xcvS2Send_transmissionErrors h
  | s3aWait => cases h; exact xcvS3aWait_transmissionErrors s e
  | s3bPoll => exact xcvS3bPoll_transmissionErrors h
  | s3bSidewait => cases h; exact xcvS3bSidewait_transmissionErrors s e
  | s3bSide => exact xcvS3bSide_transmissionErrors h
  | s3dAck => exact xcvS3dAck_transmissionErrors h
  | s3cValidate | s3eType | s3fWaitdir | s3gApply =>
    obtain ⟨_, -, h⟩ := bind_ok.1 h
    repeat' split at h
    all_goals cases h; rfl
  | s3gRefresh => exact xcvS3gRefresh_transmissionErrors h
  | retx => exact xcvRetx_transmissionErrors h
  | done => exact xcvDone_transmissionErrors h
  | fail => exact absurd rfl hx

/-! The arbiter and the mailbox leave the counter. -/

theorem admitFg_transmissionErrors (nb : Bool) (s : State) :
    (admitFg nb s).transmissionErrors = s.transmissionErrors := by
  unfold admitFg
  repeat' split
  all_goals rfl

theorem acquireBg_transmissionErrors (s : State) : (acquireBg s).1.transmissionErrors = s.transmissionErrors := by
  unfold acquireBg
  split <;> rfl

theorem releaseBg_transmissionErrors (h : releaseBg s = .ok t) : t.transmissionErrors = s.transmissionErrors := by
  obtain ⟨-, -, rfl⟩ := releaseBg_ok h
  rfl

theorem fgTimeout_transmissionErrors (s : State) (a : Nat) :
    (fgTimeout s a).transmissionErrors = s.transmissionErrors := by
  unfold fgTimeout
  split <;> rfl

theorem fgInterrupt_transmissionErrors (s : State) (a : Nat) :
    (fgInterrupt s a).transmissionErrors = s.transmissionErrors := by
  unfold fgInterrupt
  split <;> rfl

theorem postMailbox_transmissionErrors {d : List Byte} {r : State × Status} (h : postMailbox s d = .ok r) :
    r.1.transmissionErrors = s.transmissionErrors := by
  rcases postMailbox_ok h with ⟨-, rfl⟩ | ⟨-, rfl⟩ | ⟨-, -, -, rfl⟩ <;> rfl

theorem takeEnter_transmissionErrors (nb : Bool) (s : State) :
    (takeEnter nb s).transmissionErrors = s.transmissionErrors := by
  unfold takeEnter
  repeat' split
  all_goals rfl

theorem consumerInterrupt_transmissionErrors (s : State) (a : Nat) :
    (consumerInterrupt s a).transmissionErrors = s.transmissionErrors := by
  unfold consumerInterrupt
  repeat' split
  all_goals rfl

/-! The command port: `XCV.XCHG` may count, `STAT.CLR` clears, the other operations leave the counter. -/

/-- Only the poller's `XCV.XCHG` in `Failed` counts at the port (U14); an accepted transaction has not failed yet. -/
theorem xcvXchg_transmissionErrors (h : exec .xcvXchg s = .next t) :
    t.transmissionErrors = s.transmissionErrors ∨
      (s.portCls = .bg ∧ s.connState = .failed ∧ t.transmissionErrors = bump s.cfg s.transmissionErrors) := by
  replace h : execXcvXchg s = .next t := h
  unfold execXcvXchg at h
  split at h
  · cases h
  · obtain ⟨-, h⟩ := next_of_guard.1 h
    obtain ⟨-, h⟩ := next_of_guard.1 h
    split at h
    · next hfailed =>
      cases h
      exact .inr ⟨hfailed.1, hfailed.2, rfl⟩
    · cases h
      exact .inl rfl

theorem statClr_transmissionErrors (h : exec .statClr s = .next t) : t.transmissionErrors = 0 := by
  obtain ⟨-, h⟩ := next_of_guard.1 h
  split at h <;> cases h
  rfl

theorem arbAcqFg_transmissionErrors {nb : Bool} (h : exec (.arbAcqFg nb) s = .next t) :
    t.transmissionErrors = s.transmissionErrors := by
  obtain ⟨-, h⟩ := next_of_guard.1 h
  obtain ⟨-, h⟩ := next_of_guard.1 h
  obtain ⟨-, h⟩ := next_of_guard.1 h
  obtain ⟨-, h⟩ := next_of_guard.1 h
  cases h
  exact admitFg_transmissionErrors nb s

theorem arbAcqBg_transmissionErrors (h : exec .arbAcqBg s = .next t) : t.transmissionErrors = s.transmissionErrors := by
  obtain ⟨-, h⟩ := next_of_guard.1 h
  split at h
  · cases h; rfl
  · obtain ⟨-, h⟩ := next_of_guard.1 h
    cases h
    exact acquireBg_transmissionErrors s

theorem arbRelBg_transmissionErrors (h : exec .arbRelBg s = .next t) : t.transmissionErrors = s.transmissionErrors := by
  obtain ⟨-, h⟩ := next_of_guard.1 h
  obtain ⟨-, h⟩ := next_of_guard.1 h
  obtain ⟨u, hu, rfl⟩ := map_ok.1 (outcome_next.1 h)
  split
  · rfl
  · exact (releaseBg_transmissionErrors hu :)

theorem mbxPost_transmissionErrors (h : exec .mbxPost s = .next t) : t.transmissionErrors = s.transmissionErrors := by
  obtain ⟨-, h⟩ := next_of_guard.1 h
  obtain ⟨-, h⟩ := next_of_guard.1 h
  split at h
  · split at h
    · cases h; rfl
    · obtain ⟨r, hr, rfl⟩ := map_ok.1 (outcome_next.1 h)
      exact postMailbox_transmissionErrors hr
  · cases h

theorem mbxTake_transmissionErrors {nb : Bool} (h : exec (.mbxTake nb) s = .next t) :
    t.transmissionErrors = s.transmissionErrors := by
  obtain ⟨-, h⟩ := next_of_guard.1 h
  obtain ⟨-, h⟩ := next_of_guard.1 h
  obtain ⟨-, h⟩ := next_of_guard.1 h
  obtain ⟨-, h⟩ := next_of_guard.1 h
  split at h <;> cases h
  · rfl
  · exact takeEnter_transmissionErrors nb s

/-- Everything that an operation at the port can do to the counter. -/
theorem exec_transmissionErrors (h : exec i s = .next t) :
    t.transmissionErrors = s.transmissionErrors ∨
      (i = .xcvXchg ∧ s.portCls = .bg ∧ s.connState = .failed ∧
        t.transmissionErrors = bump s.cfg s.transmissionErrors) ∨
      (i = .statClr ∧ t.transmissionErrors = 0) := by
  cases i with
  | xcvXchg => exact (xcvXchg_transmissionErrors h).imp_right fun hcount => .inl ⟨rfl, hcount⟩
  | statClr => exact .inr (.inr ⟨rfl, statClr_transmissionErrors h⟩)
  | frmEnc => obtain ⟨-, ⟨_, -, rfl⟩ | ⟨_, -, -, rfl⟩⟩ := frmEnc_next h <;> exact .inl rfl
  | frmVal => obtain ⟨-, rfl⟩ := frmVal_next h; exact .inl rfl
  | frmDec => obtain ⟨-, ⟨_, -, rfl⟩ | ⟨_, -, rfl⟩⟩ := frmDec_next h <;> exact .inl rfl
  | arbAcqFg nb => exact .inl (arbAcqFg_transmissionErrors h)
  | arbAcqBg => exact .inl (arbAcqBg_transmissionErrors h)
  | arbRelBg => exact .inl (arbRelBg_transmissionErrors h)
  | mbxPost => exact .inl (mbxPost_transmissionErrors h)
  | mbxTake nb => exact .inl (mbxTake_transmissionErrors h)
  | crcClr | statRd k => cases h; exact .inl rfl
  | crcByte _ | crcRd | arbRelFg | mbxClr | mbxGone | lnkRst =>
    simp only [exec, execCrcByte, execCrcRd, execArbRelFg, execMbxClr, execMbxGone, execLnkRst] at h
    repeat' split at h
    all_goals cases h
    exact .inl rfl

/-! The worker: it leaves the counter, or clears it in a `STAT.CLR` of its own (R352, R357). -/

theorem clearStatsByPolicy_transmissionErrors (s : State) :
    (clearStatsByPolicy s).transmissionErrors = s.transmissionErrors ∨ (clearStatsByPolicy s).transmissionErrors = 0 := by
  unfold clearStatsByPolicy
  split
  · exact .inr rfl
  · exact .inl rfl

theorem allocFailure_transmissionErrors (s : State) :
    (allocFailure s).transmissionErrors = s.transmissionErrors := by
  rcases allocFailure_cases s with ⟨-, h⟩ | ⟨-, h⟩ <;> exact (congrArg State.transmissionErrors h :)

theorem workerConnFetching_transmissionErrors (h : workerConnFetching s e = .ok t) :
    t.transmissionErrors = s.transmissionErrors := by
  unfold workerConnFetching at h
  split at h
  · cases h
    rw [abandonConnect_eq]
  · obtain ⟨r, hr, h⟩ := bind_ok.1 h
    have hfetch := fetchStep_transmissionErrors hr
    split at h <;> cases h <;> exact hfetch

theorem workerProbe_transmissionErrors {tries : Nat} (h : workerProbe s tries = .ok t) :
    t.transmissionErrors = s.transmissionErrors := by
  unfold workerProbe at h
  split at h
  · cases h
    rw [abandonConnect_eq]
  · obtain ⟨_, -, h⟩ := bind_ok.1 h
    obtain ⟨_, -, h⟩ := bind_ok.1 h
    obtain ⟨_, -, h⟩ := bind_ok.1 h
    cases h
    rfl

theorem workerConnDownStat_transmissionErrors (s : State) :
    (workerConnDownStat s).transmissionErrors = s.transmissionErrors ∨ (workerConnDownStat s).transmissionErrors = 0 := by
  unfold workerConnDownStat
  split
  · rw [abandonConnect_eq]
    exact .inl rfl
  · exact clearStatsByPolicy_transmissionErrors s

theorem workerPollAcquire_transmissionErrors (s : State) :
    (workerPollAcquire s).transmissionErrors = s.transmissionErrors := by
  have hacquire := acquireBg_transmissionErrors s
  unfold workerPollAcquire
  split
  · rw [beginStop_eq]
  · split <;> next heq => rw [heq] at hacquire; exact hacquire

theorem workerPollExchange_transmissionErrors (h : workerPollExchange s = .ok t) :
    t.transmissionErrors = s.transmissionErrors := by
  unfold workerPollExchange at h
  obtain ⟨_, -, h⟩ := bind_ok.1 h
  obtain ⟨_, -, h⟩ := bind_ok.1 h
  obtain ⟨_, -, h⟩ := bind_ok.1 h
  obtain ⟨_, -, h⟩ := bind_ok.1 h
  cases h
  rfl

theorem workerPollAct_transmissionErrors {r : Reply} (h : workerPollAct s e r = .ok t) :
    t.transmissionErrors = s.transmissionErrors := by
  unfold workerPollAct at h
  split at h
  · obtain ⟨u, hu, rfl⟩ := map_ok.1 h
    exact (postMailbox_transmissionErrors hu :)
  · split at h <;> cases h <;> rfl

theorem workerAdvance_transmissionErrors (h : workerAdvance s e = .ok t) :
    t.transmissionErrors = s.transmissionErrors ∨ t.transmissionErrors = 0 := by
  unfold workerAdvance at h
  generalize s.worker = w at h
  cases w with
  | connStat => cases h; exact .inr rfl
  | connUpStat | leaveStat => cases h; exact clearStatsByPolicy_transmissionErrors s
  | connDownStat => cases h; exact workerConnDownStat_transmissionErrors s
  | connFetching => exact .inl (workerConnFetching_transmissionErrors h)
  | probe tries => exact .inl (workerProbe_transmissionErrors h)
  | pollAcquire => cases h; exact .inl (workerPollAcquire_transmissionErrors s)
  | pollExchange => exact .inl (workerPollExchange_transmissionErrors h)
  | pollRelease r =>
    obtain ⟨u, hu, rfl⟩ := map_ok.1 h
    exact .inl (releaseBg_transmissionErrors hu :)
  | pollAct r => exact .inl (workerPollAct_transmissionErrors h)
  | debounce _ | connReset | connMailbox | connRegister | probing _ | pollWait | pollTest | pollAwait | failed
  | stopDrain =>
    cases h
    simp only [workerDebounce, workerConnReset, workerConnMailbox, workerConnRegister, workerProbing, workerPollWait,
      workerPollTest, workerPollAwait, workerFailed, workerStopDrain, beginStop_eq, abandonConnect_eq, readyWait_state]
    repeat' split
    all_goals exact .inl rfl
  | connFetch | connUp | connBackoff | connDown | leaveUnregister | leaveGone | leaveDown | failUnregister | failGone
  | failDown | stopUnregister | stopGone | ended => cases h; exact .inl rfl

theorem workerStep_transmissionErrors (h : workerStep s e = .ok t) :
    t.transmissionErrors = s.transmissionErrors ∨ t.transmissionErrors = 0 := by
  rcases workerStep_ok h with ⟨-, rfl⟩ | ⟨-, -, -, rfl⟩ | ⟨-, -, h⟩
  · exact .inl rfl
  · exact .inl (allocFailure_transmissionErrors s)
  · exact workerAdvance_transmissionErrors h

/-! The step (R412). -/

/-- Everything that an agent's turn or an input of the environment can do to the counter. -/
theorem applyInput_transmissionErrors {x : Input} (h : applyInput s x = .ok t) :
    t.transmissionErrors = s.transmissionErrors ∨
      ((∃ e, x = .xcv e) ∧ s.xcvState = .fail ∧ t.transmissionErrors = bump s.cfg s.transmissionErrors) ∨
      ((∃ e, x = .worker e) ∧ t.transmissionErrors = 0) := by
  cases x with
  | xcv e =>
    by_cases hfail : s.xcvState = .fail
    · exact .inr (.inl ⟨⟨e, rfl⟩, hfail, xcvStep_transmissionErrors_of_fail hfail h⟩)
    · exact .inl (xcvStep_transmissionErrors_of_ne_fail hfail h)
  | worker e => exact (workerStep_transmissionErrors h).imp_right fun hzero => .inr ⟨⟨e, rfl⟩, hzero⟩
  | fgTurn a => cases h; exact .inl (congrArg State.transmissionErrors (fgTurn_frame s a) :)
  | fgTimeout a => cases h; exact .inl (fgTimeout_transmissionErrors s a)
  | consumerTurn a => exact .inl (congrArg State.transmissionErrors (consumerTurn_frame h) :)
  | interrupt c a =>
    cases c with
    | fg => cases h; exact .inl (fgInterrupt_transmissionErrors s a)
    | bg | worker => cases h; exact .inl rfl
    | consumer => cases h; exact .inl (consumerInterrupt_transmissionErrors s a)
  | command c | readyEdge | stopSet | allocFailure => cases h; exact .inl rfl

/-- With the transceiver's turn first in line, a step that answers is a step of the transceiver. -/
theorem xcvStep_of_step {rest : List Input} (hin : s.inputs = .xcv e :: rest) (h : step s = .next t) :
    xcvStep { s with inputs := rest } e = .ok t := by
  obtain ⟨-, -, h⟩ := step_cases h
  rcases h with ⟨hnil, -⟩ | ⟨c, _, _, hcmd, -⟩ | ⟨c, _, _, hcmd, -⟩ | ⟨x, _, hx, -, h⟩
  · cases hnil.symm.trans hin
  · cases hcmd.symm.trans hin
  · cases hcmd.symm.trans hin
  · cases hx.symm.trans hin
    exact h

/-- Settles O35: a command counts or clears as its operation does at the port, a step of the transceiver counts at `FAIL`
only, a turn of the worker at most clears, and every other input leaves the counter. -/
theorem transmissionErrorsCount : Obligations.TransmissionErrorsCount := by
  refine ⟨fun s t h => ?_, fun s t e rest hfail hin h => ?_⟩
  · obtain ⟨-, -, h⟩ := step_cases h
    rcases h with ⟨-, rfl⟩ | ⟨c, rest, i, hin, hdec, h⟩ | ⟨c, rest, _, -, -, rfl⟩ | ⟨x, rest, hin, -, h⟩
    · exact .inl rfl
    · rcases exec_transmissionErrors h with hsame | ⟨rfl, hbg, hfailed, hcount⟩ | ⟨rfl, hzero⟩
      · exact .inl hsame
      · exact .inr (.inr (.inl ⟨hfailed, ⟨c, rest, hin, hbg, hdec⟩, hcount⟩))
      · exact .inr (.inr (.inr ⟨hzero, .inl ⟨c, rest, hin, hdec⟩⟩))
    · exact .inl rfl
    · rcases applyInput_transmissionErrors h with hsame | ⟨⟨e, rfl⟩, hfail, hcount⟩ | ⟨⟨e, rfl⟩, hzero⟩
      · exact .inl hsame
      · exact .inr (.inl ⟨hfail, ⟨e, rest, hin⟩, hcount⟩)
      · exact .inr (.inr (.inr ⟨hzero, .inr ⟨e, rest, hin⟩⟩))
  · exact xcvStep_transmissionErrors_of_fail (s := { s with inputs := rest }) hfail (xcvStep_of_step hin h)

end Sys2Proof.Laws
